-- ==== Sys2Proof/Word.lean ====
section
/-! DEFINITION. The word types of the block: a byte, the 8-byte buffer, and their plainest arithmetic
(00_scope.md section 4; 20_memory.md R40, R44). -/

namespace Sys2Proof

/-- A byte: 8 bits, bit 0 the least significant (20_memory.md R43). -/
abbrev Byte := BitVec 8

/-- The 64-bit words of the block: the response `rsp_data` and the host command word's carrier (30_encoding.md R73). -/
abbrev Word := BitVec 64

/-- An 8-byte buffer; `b0` is the first byte delivered or sent (20_memory.md R42). -/
structure Buf where
  b0 : Byte
  b1 : Byte
  b2 : Byte
  b3 : Byte
  b4 : Byte
  b5 : Byte
  b6 : Byte
  b7 : Byte
  deriving DecidableEq, Repr

/-- Eight zero bytes. -/
def Buf.zero : Buf := ⟨0, 0, 0, 0, 0, 0, 0, 0⟩

/-- `buf[i]`: the only memory read the block has (00_scope.md section 4, `MemRead`). -/
def Buf.get (b : Buf) (i : Fin 8) : Byte :=
  match i.val with
  | 0 => b.b0
  | 1 => b.b1
  | 2 => b.b2
  | 3 => b.b3
  | 4 => b.b4
  | 5 => b.b5
  | 6 => b.b6
  | _ => b.b7

/-- `buf[i] <- v`: the only memory write the block has (00_scope.md section 4, `MemWrite`). -/
def Buf.set (b : Buf) (i : Fin 8) (v : Byte) : Buf :=
  match i.val with
  | 0 => { b with b0 := v }
  | 1 => { b with b1 := v }
  | 2 => { b with b2 := v }
  | 3 => { b with b3 := v }
  | 4 => { b with b4 := v }
  | 5 => { b with b5 := v }
  | 6 => { b with b6 := v }
  | _ => { b with b7 := v }

/-- The same function on each of the eight bytes (the block's one lane-wise shape, 41_line_coding.md R110). -/
def Buf.map (f : Byte → Byte) (b : Buf) : Buf :=
  ⟨f b.b0, f b.b1, f b.b2, f b.b3, f b.b4, f b.b5, f b.b6, f b.b7⟩

/-- `popcount(m)`: the number of set bits of a byte (00_scope.md section 4). -/
def popcount (m : Byte) : Nat := (List.range 8).countP fun i => m.getLsbD i

/-- The value `v` fits a field of `w` bits. -/
def fitsIn (v : Byte) (w : Nat) : Bool := decide (v.toNat < 2 ^ w)

end Sys2Proof
end

