-- ==== Sys2Proof/Config.lean ====
section
/-! DEFINITION. The parameter record CFG of the block and its constraint (00_scope.md section 3, R1, R2).
Every rule is stated on the names of the parameters; State holds one CFG (log entry 1), so that a statement about
every state is a statement about every configuration. -/

namespace Sys2Proof

/-- `ROLE` (00_scope.md section 3). -/
inductive Role where
  | primary
  | secondary
  deriving DecidableEq, Repr

/-- The four names of `messageType` (30_encoding.md R62). -/
inductive MsgType where
  | status
  | login
  | error
  | reserved
  deriving DecidableEq, Repr

/-- `DIRTY_CLEAR_POLICY` (00_scope.md section 3; 42_pending_update.md R131). -/
inductive ClearPolicy where
  | afterHandoff
  | onMerge
  | never
  deriving DecidableEq, Repr

/-- The seven updatable fields, in the spec's order (00_scope.md section 5). -/
inductive UField where
  | onOff
  | temperature
  | acMode
  | fanMode
  | economyMode
  | swingMode
  | swingStep
  deriving DecidableEq, Repr

/-- One row of the field table: (byte index, mask, shift) (30_encoding.md R66, R68). -/
structure Slot where
  index : Fin 8
  mask : Byte
  shift : Nat
  deriving DecidableEq, Repr

/-- `W(f)`: the number of set bits of the field's mask (00_scope.md section 3). -/
def Slot.width (p : Slot) : Nat := popcount p.mask

/-- The parameter `LAYOUT`: one row for each of the eleven state fields (30_encoding.md R66). -/
structure Layout where
  onOff : Slot
  temperature : Slot
  acMode : Slot
  fanMode : Slot
  economyMode : Slot
  swingMode : Slot
  swingStep : Slot
  controllerPresent : Slot
  updateMagic : Slot
  controllerTemp : Slot
  acError : Slot
  deriving DecidableEq, Repr

/-- The row of an updatable field. -/
def Layout.slot (l : Layout) : UField → Slot
  | .onOff => l.onOff
  | .temperature => l.temperature
  | .acMode => l.acMode
  | .fanMode => l.fanMode
  | .economyMode => l.economyMode
  | .swingMode => l.swingMode
  | .swingStep => l.swingStep

/-- All eleven rows. -/
def Layout.slots (l : Layout) : List Slot :=
  [l.onOff, l.temperature, l.acMode, l.fanMode, l.economyMode, l.swingMode, l.swingStep,
    l.controllerPresent, l.updateMagic, l.controllerTemp, l.acError]

/-- The parameter `TYPE_CODE` (30_encoding.md R62). -/
structure TypeCode where
  status : BitVec 2
  login : BitVec 2
  error : BitVec 2
  reserved : BitVec 2
  deriving DecidableEq, Repr

/-- The parameter `DIRTY_BIT` (00_scope.md section 3). -/
structure DirtyBits where
  onOff : Fin 7
  temperature : Fin 7
  acMode : Fin 7
  fanMode : Fin 7
  economyMode : Fin 7
  swingMode : Fin 7
  swingStep : Fin 7
  deriving DecidableEq, Repr

/-- `DIRTY_BIT(g)`. -/
def DirtyBits.bit (d : DirtyBits) : UField → Fin 7
  | .onOff => d.onOff
  | .temperature => d.temperature
  | .acMode => d.acMode
  | .fanMode => d.fanMode
  | .economyMode => d.economyMode
  | .swingMode => d.swingMode
  | .swingStep => d.swingStep

/-- The parameter record `CFG` (00_scope.md section 3). `BOUND_WINDOW` is `Cfg.boundWindow`. -/
structure Cfg where
  role : Role
  addrSelf : BitVec 7
  addrUnit : BitVec 7
  addrSecondary : BitVec 7
  typeCode : TypeCode
  layout : Layout
  dirtyBit : DirtyBits
  clearPolicy : ClearPolicy
  statusOverwritesCtrlTemp : Bool
  ticksPerSecond : Nat
  deriving DecidableEq, Repr

/-- `BOUND_WINDOW`: one second, in ticks (00_scope.md section 3; 43_protocol_fsm.md R180). -/
def Cfg.boundWindow (c : Cfg) : Nat := c.ticksPerSecond

/-- `UM_PLAIN`, fixed by the source (00_scope.md section 3). -/
def umPlain : Byte := 0

/-- `UM_SECONDARY`, fixed by the source (00_scope.md section 3). -/
def umSecondary : Byte := 2

/-- `UM_UPDATE`, fixed by the source (00_scope.md section 3). -/
def umUpdate : Byte := 10

/-- One row meets R2: byte index 3 to 7, a non-empty run of adjacent bits, `shift` its lowest set bit. -/
def Slot.wf (p : Slot) : Bool :=
  decide (3 ≤ p.index.val) && decide (p.shift < 8) && decide (p.mask ≠ 0)
    && decide (p.mask.toNat = (2 ^ p.width - 1) * 2 ^ p.shift)

/-- Two rows share no bit. -/
def Slot.apart (p q : Slot) : Bool := decide (p.index ≠ q.index) || decide (p.mask &&& q.mask = 0)

/-- `LAYOUT` meets R2: every row does, no two share a bit, and the value 10 fits `updateMagic`. -/
def Layout.wf (l : Layout) : Bool :=
  l.slots.all Slot.wf && decide (l.slots.Pairwise fun p q => p.apart q = true)
    && decide (4 ≤ l.updateMagic.width)

/-- `TYPE_CODE` meets R2: a bijection with `TYPE_CODE(STATUS) = 1`. -/
def TypeCode.wf (t : TypeCode) : Bool :=
  decide (t.status = 1) && decide ([t.status, t.login, t.error, t.reserved].Nodup)

/-- `DIRTY_BIT` is injective (00_scope.md section 3). -/
def DirtyBits.wf (d : DirtyBits) : Bool :=
  decide ([d.onOff, d.temperature, d.acMode, d.fanMode, d.economyMode, d.swingMode, d.swingStep].Nodup)

/-- The constraint on the parameters (00_scope.md section 3, R2). -/
def Cfg.wf (c : Cfg) : Bool :=
  decide (c.addrUnit ≠ c.addrSelf) && decide (c.addrUnit ≠ c.addrSecondary) && c.typeCode.wf
    && c.layout.wf && c.dirtyBit.wf && decide (0 < c.ticksPerSecond)

/-- The default `LAYOUT` of 30_encoding.md R66. PRESUMED: the spec marks it as general knowledge
(93_implementation_defined.md G1; log entry 2). Unsafe for a claim about `State.reset`; a claim about every state
does not rest on it. -/
def Layout.default : Layout where
  onOff := ⟨3, 0x01, 0⟩
  temperature := ⟨4, 0x7F, 0⟩
  acMode := ⟨3, 0x0E, 1⟩
  fanMode := ⟨3, 0x70, 4⟩
  economyMode := ⟨4, 0x80, 7⟩
  swingMode := ⟨5, 0x04, 2⟩
  swingStep := ⟨5, 0x02, 1⟩
  controllerPresent := ⟨6, 0x01, 0⟩
  updateMagic := ⟨5, 0xF0, 4⟩
  controllerTemp := ⟨6, 0x7E, 1⟩
  acError := ⟨3, 0x80, 7⟩

/-- The default `TYPE_CODE` of 30_encoding.md R62. -/
def TypeCode.default : TypeCode := { reserved := 0, status := 1, login := 2, error := 3 }

/-- The default `DIRTY_BIT` of 00_scope.md section 3. -/
def DirtyBits.default : DirtyBits := ⟨0, 1, 2, 3, 4, 5, 6⟩

/-- The reference configuration `CFG_A`: the defaults (00_scope.md section 3). The three addresses are PRESUMED
(93_implementation_defined.md G2; log entry 2). -/
def cfgA : Cfg where
  role := .primary
  addrSelf := 32
  addrUnit := 1
  addrSecondary := 33
  typeCode := TypeCode.default
  layout := Layout.default
  dirtyBit := DirtyBits.default
  clearPolicy := .afterHandoff
  statusOverwritesCtrlTemp := false
  ticksPerSecond := 1000

/-- The reference configuration `CFG_B`: small addresses, bit 5 clear in all three (00_scope.md section 3). -/
def cfgB : Cfg := { cfgA with addrSelf := 2, addrUnit := 1, addrSecondary := 3 }

/-- The reference configuration `CFG_C`: `CFG_B` as the secondary (00_scope.md section 3). -/
def cfgC : Cfg := { cfgB with role := .secondary, addrSelf := 3 }

end Sys2Proof
end

