-- ==== Sys2Proof/Syntax.lean ====
section
/-! DEFINITION. The syntax of the block: the Frame record, the operations (one constructor of `Instr` per row of
opcode_table.json) and the requests that stand at its ports. -/

namespace Sys2Proof

/-- Values of the seven updatable fields (00_scope.md section 5). A field's width is `W(f)`, a parameter, so the
values are held in bytes and `fits` says that they have their width (40_frame_codec.md R97; log entry 3). -/
structure Setpoints where
  onOff : Byte
  temperature : Byte
  acMode : Byte
  fanMode : Byte
  economyMode : Byte
  swingMode : Byte
  swingStep : Byte
  deriving DecidableEq, Repr

/-- The value of updatable field `g`. -/
def Setpoints.get (p : Setpoints) : UField → Byte
  | .onOff => p.onOff
  | .temperature => p.temperature
  | .acMode => p.acMode
  | .fanMode => p.fanMode
  | .economyMode => p.economyMode
  | .swingMode => p.swingMode
  | .swingStep => p.swingStep

/-- Updatable field `g` takes the value `v`; the other six keep theirs. -/
def Setpoints.set (p : Setpoints) (v : Byte) : UField → Setpoints
  | .onOff => { p with onOff := v }
  | .temperature => { p with temperature := v }
  | .acMode => { p with acMode := v }
  | .fanMode => { p with fanMode := v }
  | .economyMode => { p with economyMode := v }
  | .swingMode => { p with swingMode := v }
  | .swingStep => { p with swingStep := v }

/-- All seven fields zero. -/
def Setpoints.zero : Setpoints := ⟨0, 0, 0, 0, 0, 0, 0⟩

/-- CurrentState: nine fields (10_state.md R13). -/
structure CurrentState extends Setpoints where
  acError : Byte
  controllerTemp : Byte
  deriving DecidableEq, Repr

/-- `Snapshot` is the record type of the nine `CS` fields (10_state.md R14). -/
abbrev Snapshot := CurrentState

/-- All nine fields zero. -/
def CurrentState.zero : CurrentState := { Setpoints.zero with acError := 0, controllerTemp := 0 }

/-- `Frame`: the record of eighteen fields (30_encoding.md R61). -/
structure Frame extends Setpoints where
  messageSource : BitVec 7
  broadcast : Bool
  messageDest : BitVec 7
  unknownBit : Bool
  loginBit : Bool
  messageType : BitVec 2
  writeBit : Bool
  controllerPresent : Byte
  updateMagic : Byte
  controllerTemp : Byte
  acError : Byte
  deriving DecidableEq, Repr

/-- `ZERO_FRAME`: all eighteen fields 0 (30_encoding.md R62). -/
def Frame.zero : Frame :=
  { Setpoints.zero with
    messageSource := 0, broadcast := false, messageDest := 0, unknownBit := false, loginBit := false,
    messageType := 0, writeBit := false, controllerPresent := 0, updateMagic := 0, controllerTemp := 0,
    acError := 0 }

/-- The class of an inbound frame (30_encoding.md R70); RX.STATUS.LOGINREQ is two table rows, told apart by `ROLE`. -/
inductive FrameClass where
  | statusLoginreq
  | statusLoginreqSecondary
  | statusExchange
  | login
  | error
  | reserved
  | toSecondary
  | ignored
  deriving DecidableEq, Repr

/-- The operations of the block: one constructor per row of opcode_table.json, in the table's order. -/
inductive Instr where
  /-- RX.STATUS.LOGINREQ (R157) -/
  | rxStatusLoginreq (f : Frame) (now : Nat)
  /-- RX.STATUS.LOGINREQ.SECONDARY (R158) -/
  | rxStatusLoginreqSecondary (f : Frame) (now : Nat)
  /-- RX.STATUS.EXCHANGE (R160) -/
  | rxStatusExchange (f : Frame) (now : Nat)
  /-- RX.LOGIN (R162) -/
  | rxLogin (f : Frame) (now : Nat)
  /-- RX.LOGIN.PROBE (R163) -/
  | rxLoginProbe
  /-- RX.ERROR (R164) -/
  | rxError (f : Frame) (now : Nat)
  /-- RX.RESERVED (R167) -/
  | rxReserved (f : Frame) (now : Nat)
  /-- RX.TO_SECONDARY (R165) -/
  | rxToSecondary (f : Frame) (now : Nat)
  /-- RX.IGNORED (R166) -/
  | rxIgnored (f : Frame) (now : Nat)
  /-- ON_FRAME_RECEIVED (R150): `raw` are wire bytes -/
  | onFrameReceived (raw : Buf) (now : Nat)
  /-- SET_ONOFF (R122) -/
  | setOnoff (v : Byte)
  /-- SET_TEMP (R123) -/
  | setTemp (v : Byte)
  /-- SET_MODE (R124) -/
  | setMode (v : Byte)
  /-- SET_FANMODE (R125) -/
  | setFanmode (v : Byte)
  /-- SET_ECONOMY (R126) -/
  | setEconomy (v : Byte)
  /-- SET_SWINGMODE (R127) -/
  | setSwingmode (v : Byte)
  /-- SET_SWINGSTEP (R128) -/
  | setSwingstep (v : Byte)
  /-- APPLY_STATE (R135) -/
  | applyState (d : Setpoints)
  /-- GET_ONOFF (R171) -/
  | getOnoff
  /-- GET_TEMP (R172) -/
  | getTemp
  /-- GET_MODE (R173) -/
  | getMode
  /-- GET_FANMODE (R174) -/
  | getFanmode
  /-- GET_ECONOMY (R175) -/
  | getEconomy
  /-- GET_SWINGMODE (R176) -/
  | getSwingmode
  /-- GET_SWINGSTEP (R177) -/
  | getSwingstep
  /-- GET_CONTROLLERTEMP (R178) -/
  | getControllertemp
  /-- IS_BOUND (R180) -/
  | isBound (now : Nat)
  /-- UPDATE_PENDING (R137) -/
  | updatePending
  /-- GET_UPDATE_FIELDS (R138) -/
  | getUpdateFields
  /-- STATE_TAKE (R206) -/
  | stateTake
  /-- TX_TAKE (R203) -/
  | txTake
  /-- reserved selector 0x00 (R77) -/
  | reservedOpsel00
  /-- reserved selector 0x16 (R77) -/
  | reservedOpsel16
  /-- reserved selector 0x17 (R77) -/
  | reservedOpsel17
  /-- reserved selector 0x18 (R77) -/
  | reservedOpsel18
  /-- reserved selector 0x19 (R77) -/
  | reservedOpsel19
  /-- reserved selector 0x1A (R77) -/
  | reservedOpsel1A
  /-- reserved selector 0x1B (R77) -/
  | reservedOpsel1B
  /-- reserved selector 0x1C (R77) -/
  | reservedOpsel1C
  /-- reserved selector 0x1D (R77) -/
  | reservedOpsel1D
  /-- reserved selector 0x1E (R77) -/
  | reservedOpsel1E
  /-- reserved selector 0x1F (R77) -/
  | reservedOpsel1F
  /-- DECODE (R91): plain bytes -/
  | decode (b : Buf)
  /-- ENCODE (R95) -/
  | encode (f : Frame)
  /-- TOWIRE (R110): plain bytes -/
  | toWire (b : Buf)
  /-- FROMWIRE (R111): wire bytes -/
  | fromWire (w : Buf)
  /-- TRANSMIT (R155) -/
  | transmit (r : Frame)
  /-- TX_PUT (R201): wire bytes -/
  | txPut (w : Buf)
  /-- SP_PUBLISH (R205) -/
  | spPublish (p : Snapshot)
  /-- HAS_PENDING (R129) -/
  | hasPending
  /-- DRAIN_INTO (R130) -/
  | drainInto (r : Frame)
  /-- CLEAR_DIRTY (R131) -/
  | clearDirty (sent : Bool)
  deriving DecidableEq, Repr

/-- What the environment presents at the ports of the block (30_encoding.md R73; 60_exceptions.md R230). -/
inductive Request where
  /-- the transport receive port: 8 wire bytes and the clock sample -/
  | rx (raw : Buf) (now : Nat)
  /-- the host command port: the command word and the clock sample (R74) -/
  | host (cmd : Word) (now : Nat)
  /-- the environment lets the second step of RX.LOGIN run (R163, R230); no input -/
  | probe
  /-- the codec port `dec_in` -/
  | decIn (b : Buf)
  /-- the codec port `enc_in` -/
  | encIn (f : Frame)
  /-- the codec port `lc_in`, asked for TOWIRE -/
  | lcToWire (b : Buf)
  /-- the codec port `lc_in`, asked for FROMWIRE -/
  | lcFromWire (w : Buf)
  /-- reset, with the straps it samples (70_reset_and_hazards.md R250) -/
  | reset (straps : Cfg)
  deriving DecidableEq, Repr

end Sys2Proof
end

