-- ==== Sys2Proof/Machine/Flags.lean ====
section
/-! DEFINITION. The flag computations of the block: the dirty mask (42_pending_update.md R121, R129 to R131) and the
liveness test (43_protocol_fsm.md R180). Pure functions of the flag registers. -/

namespace Sys2Proof

/-- `PU.dirty[DIRTY_BIT(g)] <- 1` (42_pending_update.md R121). -/
def markDirty (d : DirtyBits) (g : UField) (mask : BitVec 7) : BitVec 7 :=
  mask ||| (1#7 <<< (d.bit g).val)

/-- `PU.dirty[DIRTY_BIT(g)] = 1`. -/
def isDirty (d : DirtyBits) (g : UField) (mask : BitVec 7) : Bool := mask.getLsbD (d.bit g).val

/-- `HAS_PENDING()`: any field is dirty (42_pending_update.md R129). -/
def anyDirty (mask : BitVec 7) : Bool := mask != 0

/-- `CLEAR_DIRTY(sent)` on the mask, by policy (42_pending_update.md R131). -/
def clearedMask (p : ClearPolicy) (sent : Bool) (mask : BitVec 7) : BitVec 7 :=
  match p with
  | .afterHandoff => if sent then 0 else mask
  | .onMerge => 0
  | .never => mask

/-- One field of the drain: the shadow where the field is dirty, else the frame's own value (R130). -/
def drained (d : DirtyBits) (mask : BitVec 7) (sh own : Setpoints) (g : UField) : Byte :=
  if isDirty d g mask then sh.get g else own.get g

/-- The drain of all seven updatable fields (42_pending_update.md R130). -/
def drainSetpoints (d : DirtyBits) (mask : BitVec 7) (sh own : Setpoints) : Setpoints where
  onOff := drained d mask sh own .onOff
  temperature := drained d mask sh own .temperature
  acMode := drained d mask sh own .acMode
  fanMode := drained d mask sh own .fanMode
  economyMode := drained d mask sh own .economyMode
  swingMode := drained d mask sh own .swingMode
  swingStep := drained d mask sh own .swingStep

/-- IS_BOUND's test on the liveness pair (43_protocol_fsm.md R180). -/
def boundTest (valid : Bool) (last window now : Nat) : Bool := valid && decide (now - last ≤ window)

end Sys2Proof
end

