-- ==== Sys2Proof/Machine/Operands.lean ====
section
/-! DEFINITION. The operand forms of the block: bit fields of the 8-byte buffer and their assembly into a Frame
(30_encoding.md R64 to R69, 40_frame_codec.md), the line coding (41_line_coding.md), the word view of a buffer, the
address filter and the frame classes (R70, R152), and the packing of the host command word and its response
(R74, R76, R78). Pure functions; nothing here reads State. -/

namespace Sys2Proof

/-! ### Bit fields of a buffer -/

/-- `EXTRACT(buf, g)` (30_encoding.md R68). -/
def extract (p : Slot) (b : Buf) : Byte := (b.get p.index &&& p.mask) >>> p.shift

/-- Insertion of the value `v` into field `g` (30_encoding.md R68). -/
def insertField (p : Slot) (v : Byte) (b : Buf) : Buf :=
  b.set p.index (b.get p.index ||| ((v <<< p.shift) &&& p.mask))

/-- One bit as a byte. -/
def flag (b : Bool) : Byte := if b then 1 else 0

/-! ### The frame codec -/

/-- The eleven state fields of a buffer, each through its own row of `LAYOUT` (40_frame_codec.md R91), put into a
frame whose header fields are given. -/
def decodeState (l : Layout) (b : Buf) (h : Frame) : Frame :=
  { h with
    onOff := extract l.onOff b
    temperature := extract l.temperature b
    acMode := extract l.acMode b
    fanMode := extract l.fanMode b
    economyMode := extract l.economyMode b
    swingMode := extract l.swingMode b
    swingStep := extract l.swingStep b
    controllerPresent := extract l.controllerPresent b
    updateMagic := extract l.updateMagic b
    controllerTemp := extract l.controllerTemp b
    acError := extract l.acError b }

/-- The header of a buffer (40_frame_codec.md R91, 30_encoding.md R64, R65, R69): `loginBit` and bit 5 of
`messageDest` are the same wire bit, and the broadcast flag replaces the destination by `ADDR_SELF`. -/
def decodeHeader (self : BitVec 7) (b : Buf) : Frame :=
  { Frame.zero with
    messageSource := b.b0.extractLsb' 0 7
    broadcast := b.b0.getLsbD 7
    messageDest := if b.b0.getLsbD 7 then self else b.b1.extractLsb' 0 7
    unknownBit := b.b1.getLsbD 7
    loginBit := b.b1.getLsbD 5
    messageType := b.b2.extractLsb' 4 2
    writeBit := b.b2.getLsbD 3 }

/-- DECODE, on plain bytes and `ADDR_SELF` (40_frame_codec.md R91). -/
def decodeFrame (l : Layout) (self : BitVec 7) (b : Buf) : Frame := decodeState l b (decodeHeader self b)

/-- The header bytes 0 to 2 of a frame over a zeroed buffer (40_frame_codec.md R95, R96). -/
def encodeHeader (f : Frame) : Buf :=
  { Buf.zero with
    b0 := f.messageSource.setWidth 8 ||| (flag f.broadcast <<< 7)
    b1 := (if f.broadcast then 0 else f.messageDest.setWidth 8) ||| (flag f.loginBit <<< 5)
            ||| (flag f.unknownBit <<< 7)
    b2 := (f.messageType.setWidth 8 <<< 4) ||| (flag f.writeBit <<< 3) }

/-- The eleven state fields inserted, each through its own row of `LAYOUT` (40_frame_codec.md R95;
70_reset_and_hazards.md R270). -/
def encodeState (l : Layout) (f : Frame) (b : Buf) : Buf :=
  insertField l.onOff f.onOff <|
  insertField l.temperature f.temperature <|
  insertField l.acMode f.acMode <|
  insertField l.fanMode f.fanMode <|
  insertField l.economyMode f.economyMode <|
  insertField l.swingMode f.swingMode <|
  insertField l.swingStep f.swingStep <|
  insertField l.controllerPresent f.controllerPresent <|
  insertField l.updateMagic f.updateMagic <|
  insertField l.controllerTemp f.controllerTemp <|
  insertField l.acError f.acError b

/-- ENCODE, to plain bytes (40_frame_codec.md R95). -/
def encodeFrame (l : Layout) (f : Frame) : Buf := encodeState l f (encodeHeader f)

/-! ### The line coding -/

/-- TOWIRE: every byte complemented (41_line_coding.md R110). -/
def toWire (b : Buf) : Buf := b.map (~~~ ·)

/-- FROMWIRE: every byte complemented (41_line_coding.md R111). -/
def fromWire (w : Buf) : Buf := w.map (~~~ ·)

/-! ### The word view of a buffer -/

/-- `WORD(buf)`: byte i at bits 8i+7 down to 8i (00_scope.md section 4). -/
def wordOf (b : Buf) : Word := b.b7 ++ b.b6 ++ b.b5 ++ b.b4 ++ b.b3 ++ b.b2 ++ b.b1 ++ b.b0

/-- The buffer whose word view is `w`. -/
def bufOf (w : Word) : Buf :=
  ⟨w.extractLsb' 0 8, w.extractLsb' 8 8, w.extractLsb' 16 8, w.extractLsb' 24 8,
    w.extractLsb' 32 8, w.extractLsb' 40 8, w.extractLsb' 48 8, w.extractLsb' 56 8⟩

/-! ### Address filter and frame classes -/

/-- The name of a 2-bit type code (30_encoding.md R62). -/
def TypeCode.name (t : TypeCode) (code : BitVec 2) : MsgType :=
  if code = t.status then .status
  else if code = t.login then .login
  else if code = t.error then .error
  else .reserved

/-- A frame is addressed to this controller (43_protocol_fsm.md R152). -/
def addressedToMe (c : Cfg) (f : Frame) : Bool := f.messageDest == c.addrSelf

/-- A frame is addressed to the secondary: tested only when it is not addressed to this controller (R152). -/
def addressedToSecondary (c : Cfg) (f : Frame) : Bool :=
  !addressedToMe c f && (f.messageDest == c.addrSecondary)

/-- The class of a decoded frame, in the order of 30_encoding.md R70 and 60_exceptions.md R232: address, type,
`loginBit`, `ROLE`. -/
def classOf (c : Cfg) (f : Frame) : FrameClass :=
  if addressedToMe c f then
    match c.typeCode.name f.messageType with
    | .status =>
      if f.loginBit then
        match c.role with
        | .primary => .statusLoginreq
        | .secondary => .statusLoginreqSecondary
      else .statusExchange
    | .login => .login
    | .error => .error
    | .reserved => .reserved
  else if addressedToSecondary c f then .toSecondary
  else .ignored

/-! ### Host command word and response -/

/-- Fields packed from bit 0 up, each in its own width (30_encoding.md R76, R78). -/
def packFields : List (Nat × Byte) → Nat
  | [] => 0
  | (w, v) :: rest => v.toNat % 2 ^ w + 2 ^ w * packFields rest

/-- The `w` bits of `x` from bit `off` up, as a field value. -/
def sliceAt (x off w : Nat) : Byte := BitVec.ofNat 8 (x / 2 ^ off % 2 ^ w)

/-- The seven updatable fields with their widths, in the order of R76. -/
def setpointFields (l : Layout) (p : Setpoints) : List (Nat × Byte) :=
  [(l.onOff.width, p.onOff), (l.temperature.width, p.temperature), (l.acMode.width, p.acMode),
    (l.fanMode.width, p.fanMode), (l.economyMode.width, p.economyMode), (l.swingMode.width, p.swingMode),
    (l.swingStep.width, p.swingStep)]

/-- The seven updatable fields packed as APPLY_STATE's `arg` (30_encoding.md R76). -/
def packSetpoints (l : Layout) (p : Setpoints) : Nat := packFields (setpointFields l p)

/-- The seven updatable fields read from APPLY_STATE's `arg` (30_encoding.md R76; log entry 9). -/
def unpackSetpoints (l : Layout) (arg : Nat) : Setpoints :=
  let o1 := l.onOff.width
  let o2 := o1 + l.temperature.width
  let o3 := o2 + l.acMode.width
  let o4 := o3 + l.fanMode.width
  let o5 := o4 + l.economyMode.width
  let o6 := o5 + l.swingMode.width
  { onOff := sliceAt arg 0 l.onOff.width
    temperature := sliceAt arg o1 l.temperature.width
    acMode := sliceAt arg o2 l.acMode.width
    fanMode := sliceAt arg o3 l.fanMode.width
    economyMode := sliceAt arg o4 l.economyMode.width
    swingMode := sliceAt arg o5 l.swingMode.width
    swingStep := sliceAt arg o6 l.swingStep.width }

/-- `PACK(s)`: a Snapshot in `rsp_data` (30_encoding.md R78; log entry 10). -/
def packSnapshot (l : Layout) (p : Snapshot) : Word :=
  BitVec.ofNat 64 (packFields (setpointFields l p.toSetpoints
    ++ [(l.acError.width, p.acError), (l.controllerTemp.width, p.controllerTemp)]))

/-- The bits the seven updatable fields need in `arg`. -/
def setpointsWidth (l : Layout) : Nat :=
  l.onOff.width + l.temperature.width + l.acMode.width + l.fanMode.width + l.economyMode.width
    + l.swingMode.width + l.swingStep.width

/-- The width of `arg`: 17 bits, widened to fit another `LAYOUT` (30_encoding.md R74, R76). DESIGN CHOICE that it
never narrows (log entry 9). -/
def argWidth (l : Layout) : Nat := max 17 (setpointsWidth l)

/-- The command word with selector `op` and argument `arg` (30_encoding.md R74). DESIGN CHOICE that `opsel` stands
above a widened `arg` (log entry 9). -/
def commandWord (l : Layout) (op arg : Nat) : Word := BitVec.ofNat 64 (op * 2 ^ argWidth l + arg)

/-- `opsel` of a command word: the five bits above `arg` (30_encoding.md R74). Bits of the carrier above those are no
wires of the port and are not read (log entry 9). -/
def opselOf (l : Layout) (cmd : Word) : Nat := cmd.toNat / 2 ^ argWidth l % 2 ^ 5

/-- `arg` of a command word (30_encoding.md R74). -/
def argOf (l : Layout) (cmd : Word) : Nat := cmd.toNat % 2 ^ argWidth l

end Sys2Proof
end

