-- ==== Sys2Proof/WellFormed.lean ====
section
/-! DEFINITION. Well-formed operations: every value has its field's width (40_frame_codec.md R97, 42_pending_update.md
R120), and an RX class stands with a frame that some 8 bytes decode to and that is of the class (30_encoding.md R70). -/

namespace Sys2Proof

/-- The seven updatable values have their widths under `LAYOUT`. -/
def Setpoints.fits (l : Layout) (p : Setpoints) : Bool :=
  fitsIn p.onOff l.onOff.width && fitsIn p.temperature l.temperature.width && fitsIn p.acMode l.acMode.width
    && fitsIn p.fanMode l.fanMode.width && fitsIn p.economyMode l.economyMode.width
    && fitsIn p.swingMode l.swingMode.width && fitsIn p.swingStep l.swingStep.width

/-- The nine values of a Snapshot have their widths under `LAYOUT`. -/
def CurrentState.fits (l : Layout) (p : CurrentState) : Bool :=
  p.toSetpoints.fits l && fitsIn p.acError l.acError.width && fitsIn p.controllerTemp l.controllerTemp.width

/-- The eleven state fields of a Frame have their widths under `LAYOUT` (30_encoding.md R61). -/
def Frame.fits (l : Layout) (f : Frame) : Bool :=
  f.toSetpoints.fits l && fitsIn f.controllerPresent l.controllerPresent.width
    && fitsIn f.updateMagic l.updateMagic.width && fitsIn f.controllerTemp l.controllerTemp.width
    && fitsIn f.acError l.acError.width

/-- (RT1) of 40_frame_codec.md R98. -/
def Frame.rt1 (f : Frame) : Bool := f.broadcast || (f.loginBit == f.messageDest.getLsbD 5)

/-- (RT2) of 40_frame_codec.md R98. -/
def Frame.rt2 (self : BitVec 7) (f : Frame) : Bool := !f.broadcast || (f.messageDest == self)

/-- The frame is one that DECODE can produce: its fields fit and it meets (RT1) and (RT2). -/
def Frame.inbound (c : Cfg) (f : Frame) : Bool := f.fits c.layout && f.rt1 && f.rt2 c.addrSelf

/-- The frame is one that DECODE can produce and is of class `k`. -/
def Frame.ofClass (c : Cfg) (k : FrameClass) (f : Frame) : Bool := f.inbound c && (classOf c f == k)

/-- Well-formed operations. ENCODE is defined on every Frame of the record type, its mask removing what a field's width
does not hold (40_frame_codec.md R95, R97). -/
def Instr.wf (c : Cfg) : Instr → Bool
  | .rxStatusLoginreq f _ => f.ofClass c .statusLoginreq
  | .rxStatusLoginreqSecondary f _ => f.ofClass c .statusLoginreqSecondary
  | .rxStatusExchange f _ => f.ofClass c .statusExchange
  | .rxLogin f _ => f.ofClass c .login
  | .rxLoginProbe => true
  | .rxError f _ => f.ofClass c .error
  | .rxReserved f _ => f.ofClass c .reserved
  | .rxToSecondary f _ => f.ofClass c .toSecondary
  | .rxIgnored f _ => f.ofClass c .ignored
  | .onFrameReceived _ _ => true
  | .setOnoff v => fitsIn v c.layout.onOff.width
  | .setTemp v => fitsIn v c.layout.temperature.width
  | .setMode v => fitsIn v c.layout.acMode.width
  | .setFanmode v => fitsIn v c.layout.fanMode.width
  | .setEconomy v => fitsIn v c.layout.economyMode.width
  | .setSwingmode v => fitsIn v c.layout.swingMode.width
  | .setSwingstep v => fitsIn v c.layout.swingStep.width
  | .applyState d => d.fits c.layout
  | .getOnoff => true
  | .getTemp => true
  | .getMode => true
  | .getFanmode => true
  | .getEconomy => true
  | .getSwingmode => true
  | .getSwingstep => true
  | .getControllertemp => true
  | .isBound _ => true
  | .updatePending => true
  | .getUpdateFields => true
  | .stateTake => true
  | .txTake => true
  | .reservedOpsel00 => true
  | .reservedOpsel16 => true
  | .reservedOpsel17 => true
  | .reservedOpsel18 => true
  | .reservedOpsel19 => true
  | .reservedOpsel1A => true
  | .reservedOpsel1B => true
  | .reservedOpsel1C => true
  | .reservedOpsel1D => true
  | .reservedOpsel1E => true
  | .reservedOpsel1F => true
  | .decode _ => true
  | .encode _ => true
  | .toWire _ => true
  | .fromWire _ => true
  | .transmit r => r.fits c.layout
  | .txPut _ => true
  | .spPublish p => p.fits c.layout
  | .hasPending => true
  | .drainInto r => r.fits c.layout
  | .clearDirty _ => true

end Sys2Proof
end

