-- ==== Sys2Proof/Decode.lean ====
section
/-! DEFINITION. The decoder from what stands at a port to an operation, and after it the encoder
(30_encoding.md R70, R73 to R77). The decoder is total and rejects by name. -/

namespace Sys2Proof

/-- Why the decoder gives no operation. -/
inductive DecodeError where
  /-- reset is an event, not an operation of the table (70_reset_and_hazards.md R250); `step` takes it, with the straps it
  samples -/
  | resetEvent (straps : Cfg)
  deriving DecidableEq, Repr

/-! ### The decoder -/

/-- The RX class a decoded frame is handed to (30_encoding.md R70; 43_protocol_fsm.md R150). -/
def classInstr (k : FrameClass) (f : Frame) (now : Nat) : Instr :=
  match k with
  | .statusLoginreq => .rxStatusLoginreq f now
  | .statusLoginreqSecondary => .rxStatusLoginreqSecondary f now
  | .statusExchange => .rxStatusExchange f now
  | .login => .rxLogin f now
  | .error => .rxError f now
  | .reserved => .rxReserved f now
  | .toSecondary => .rxToSecondary f now
  | .ignored => .rxIgnored f now

/-- The frame in 8 wire bytes: FROMWIRE, then DECODE (41_line_coding.md R112; 43_protocol_fsm.md R150). -/
def receivedFrame (c : Cfg) (raw : Buf) : Frame := decodeFrame c.layout c.addrSelf (fromWire raw)

/-- 8 wire bytes at the transport receive port: always exactly one class (43_protocol_fsm.md R150). -/
def decodeRx (c : Cfg) (raw : Buf) (now : Nat) : Instr :=
  classInstr (classOf c (receivedFrame c raw)) (receivedFrame c raw) now

/-- A host command: selector and argument (30_encoding.md R75, R76, R77). A setter takes the low `W(g)` bits of
`arg`; a command without an argument ignores it (R74). `opsel` has five bits, so the last arm is selector 0x1F alone. -/
def decodeCommand (l : Layout) (op arg now : Nat) : Instr :=
  match op with
  | 0x00 => .reservedOpsel00
  | 0x01 => .setOnoff (sliceAt arg 0 l.onOff.width)
  | 0x02 => .setTemp (sliceAt arg 0 l.temperature.width)
  | 0x03 => .setMode (sliceAt arg 0 l.acMode.width)
  | 0x04 => .setFanmode (sliceAt arg 0 l.fanMode.width)
  | 0x05 => .setEconomy (sliceAt arg 0 l.economyMode.width)
  | 0x06 => .setSwingmode (sliceAt arg 0 l.swingMode.width)
  | 0x07 => .setSwingstep (sliceAt arg 0 l.swingStep.width)
  | 0x08 => .applyState (unpackSetpoints l arg)
  | 0x09 => .getOnoff
  | 0x0A => .getTemp
  | 0x0B => .getMode
  | 0x0C => .getFanmode
  | 0x0D => .getEconomy
  | 0x0E => .getSwingmode
  | 0x0F => .getSwingstep
  | 0x10 => .getControllertemp
  | 0x11 => .isBound now
  | 0x12 => .updatePending
  | 0x13 => .getUpdateFields
  | 0x14 => .stateTake
  | 0x15 => .txTake
  | 0x16 => .reservedOpsel16
  | 0x17 => .reservedOpsel17
  | 0x18 => .reservedOpsel18
  | 0x19 => .reservedOpsel19
  | 0x1A => .reservedOpsel1A
  | 0x1B => .reservedOpsel1B
  | 0x1C => .reservedOpsel1C
  | 0x1D => .reservedOpsel1D
  | 0x1E => .reservedOpsel1E
  | _ => .reservedOpsel1F

/-- The operation a request asks for (30_encoding.md R73): every request but a reset has one. -/
def decode (c : Cfg) : Request → Except DecodeError Instr
  | .rx raw now => .ok (decodeRx c raw now)
  | .host cmd now => .ok (decodeCommand c.layout (opselOf c.layout cmd) (argOf c.layout cmd) now)
  | .probe => .ok .rxLoginProbe
  | .decIn b => .ok (.decode b)
  | .encIn f => .ok (.encode f)
  | .lcToWire b => .ok (.toWire b)
  | .lcFromWire w => .ok (.fromWire w)
  | .reset straps => .error (.resetEvent straps)

/-! ### The encoder -/

/-- The wire bytes that carry a frame: ENCODE, then TOWIRE (41_line_coding.md R112). -/
def wireOf (c : Cfg) (f : Frame) : Buf := toWire (encodeFrame c.layout f)

/-- A host command as a request; the clock sample matters to IS_BOUND alone (60_exceptions.md R238). -/
def commandRequest (c : Cfg) (op arg now : Nat) : Request := .host (commandWord c.layout op arg) now

/-- The request that asks for an operation: the word of the table's row at the port of its format. An INTERNAL row
has no opcode and no port (opcode_table.json), so no request asks for it. -/
def encode (c : Cfg) : Instr → Option Request
  | .rxStatusLoginreq f now => some (.rx (wireOf c f) now)
  | .rxStatusLoginreqSecondary f now => some (.rx (wireOf c f) now)
  | .rxStatusExchange f now => some (.rx (wireOf c f) now)
  | .rxLogin f now => some (.rx (wireOf c f) now)
  | .rxLoginProbe => some .probe
  | .rxError f now => some (.rx (wireOf c f) now)
  | .rxReserved f now => some (.rx (wireOf c f) now)
  | .rxToSecondary f now => some (.rx (wireOf c f) now)
  | .rxIgnored f now => some (.rx (wireOf c f) now)
  | .onFrameReceived raw now => some (.rx raw now)
  | .setOnoff v => some (commandRequest c 0x01 v.toNat 0)
  | .setTemp v => some (commandRequest c 0x02 v.toNat 0)
  | .setMode v => some (commandRequest c 0x03 v.toNat 0)
  | .setFanmode v => some (commandRequest c 0x04 v.toNat 0)
  | .setEconomy v => some (commandRequest c 0x05 v.toNat 0)
  | .setSwingmode v => some (commandRequest c 0x06 v.toNat 0)
  | .setSwingstep v => some (commandRequest c 0x07 v.toNat 0)
  | .applyState d => some (commandRequest c 0x08 (packSetpoints c.layout d) 0)
  | .getOnoff => some (commandRequest c 0x09 0 0)
  | .getTemp => some (commandRequest c 0x0A 0 0)
  | .getMode => some (commandRequest c 0x0B 0 0)
  | .getFanmode => some (commandRequest c 0x0C 0 0)
  | .getEconomy => some (commandRequest c 0x0D 0 0)
  | .getSwingmode => some (commandRequest c 0x0E 0 0)
  | .getSwingstep => some (commandRequest c 0x0F 0 0)
  | .getControllertemp => some (commandRequest c 0x10 0 0)
  | .isBound now => some (commandRequest c 0x11 0 now)
  | .updatePending => some (commandRequest c 0x12 0 0)
  | .getUpdateFields => some (commandRequest c 0x13 0 0)
  | .stateTake => some (commandRequest c 0x14 0 0)
  | .txTake => some (commandRequest c 0x15 0 0)
  | .reservedOpsel00 => some (commandRequest c 0x00 0 0)
  | .reservedOpsel16 => some (commandRequest c 0x16 0 0)
  | .reservedOpsel17 => some (commandRequest c 0x17 0 0)
  | .reservedOpsel18 => some (commandRequest c 0x18 0 0)
  | .reservedOpsel19 => some (commandRequest c 0x19 0 0)
  | .reservedOpsel1A => some (commandRequest c 0x1A 0 0)
  | .reservedOpsel1B => some (commandRequest c 0x1B 0 0)
  | .reservedOpsel1C => some (commandRequest c 0x1C 0 0)
  | .reservedOpsel1D => some (commandRequest c 0x1D 0 0)
  | .reservedOpsel1E => some (commandRequest c 0x1E 0 0)
  | .reservedOpsel1F => some (commandRequest c 0x1F 0 0)
  | .decode b => some (.decIn b)
  | .encode f => some (.encIn f)
  | .toWire b => some (.lcToWire b)
  | .fromWire w => some (.lcFromWire w)
  | .transmit _ => none
  | .txPut _ => none
  | .spPublish _ => none
  | .hasPending => none
  | .drainInto _ => none
  | .clearDirty _ => none

/-! ### The words of the opcode table -/

/-- The request that presents a word of opcode_table.json (log entry 16). A HOSTCMD22 word has at most 24 bits in
whole bytes; a wider word is a FRAME64 word over the plain bytes, which reach the block complemented
(30_encoding.md R72). -/
def tableRequest (nbits w now : Nat) : Request :=
  if nbits ≤ 24 then .host (BitVec.ofNat 64 (w % 2 ^ nbits)) now
  else .rx (toWire (bufOf (BitVec.ofNat 64 (w % 2 ^ nbits)))) now

/-- What the decoder reads from a word of opcode_table.json under the default configuration, for which the table's
words are given. -/
def decodeTableWord (nbits w : Nat) : Option Instr :=
  match decode cfgA (tableRequest nbits w 0) with
  | .ok i => some i
  | .error _ => none

end Sys2Proof
end

