-- ==== Sys2Proof/Machine/State.lean ====
section
/-! DEFINITION. The state of the block as plain data (10_state.md R10 to R23), the reasons a step can stop, and the
state after reset. -/

namespace Sys2Proof.Machine

/-- No operation of the block ends in a fault: it returns no error, sets no error flag and never stops
(60_exceptions.md R220, R224). The four fault classes of R221 are handled inside the operations (log entry 20). -/
inductive Fault where
  deriving DecidableEq, Repr

/-- Why a step gives a request no meaning. Each of them is safe: nothing can be proved about what the hardware does
there. -/
inductive Refusal where
  /-- Raised by `exec` for an operation without a meaning yet; none is left. Safe. -/
  | notModelled (mnemonic : String)
  /-- Raised by `step` in a configuration that breaks R2 (93_implementation_defined.md I10). Safe. -/
  | badConfig
  /-- `refuse(value_out_of_width)`: raised by a setter, APPLY_STATE or SP_PUBLISH whose operand is wider than its
  field (42_pending_update.md R120; 93_implementation_defined.md I6). Safe. -/
  | valueOutOfWidth
  /-- Raised by every RX class for a frame delivered while `FSM.probePending = 1` (43_protocol_fsm.md R151;
  93_implementation_defined.md I11). Safe. -/
  | frameBeforeProbe
  /-- Raised by every RX class and by IS_BOUND for a clock sample smaller than an earlier one
  (60_exceptions.md R238; 93_implementation_defined.md I11). Safe. -/
  | clockWentBack
  /-- Raised by RX.LOGIN.PROBE where it is not enabled (43_protocol_fsm.md R163; 60_exceptions.md R230). Safe. -/
  | probeNotEnabled
  /-- Raised by an RX class handed a frame that is not of that class, or that no 8 bytes decode to
  (30_encoding.md R70; log entry 14). No request reaches it in a configuration that meets R2. Safe. -/
  | notOfClass
  deriving DecidableEq, Repr

/-- The pending-update register `PU` (10_state.md R15). -/
structure PendingUpdate where
  dirty : BitVec 7
  sh : Setpoints
  deriving DecidableEq, Repr

/-- The protocol flags `FSM` (10_state.md R16, R17, R18). -/
structure Fsm where
  seenSecondary : Bool
  lastRxValid : Bool
  lastRxTime : Nat
  probePending : Bool
  deriving DecidableEq, Repr

/-- The outbound mailbox `TXM`, holding wire bytes (10_state.md R19). -/
structure TxMailbox where
  full : Bool
  data : Buf
  deriving DecidableEq, Repr

/-- The state mailbox `SPM` (10_state.md R20). -/
structure StateMailbox where
  full : Bool
  data : Snapshot
  deriving DecidableEq, Repr

/-- The exclusive-access region `LOCK` (10_state.md R21). -/
structure Lock where
  held : Bool
  deriving DecidableEq, Repr

/-- The outputs of the block at its ports, latched (30_encoding.md R73). The MODEL's own (log entry 11): the spec
makes them outputs, and no rule reads them back. -/
structure Outputs where
  /-- `rsp_present` of the latest host command -/
  rspPresent : Bool
  /-- `rsp_data` of the latest host command -/
  rspData : Word
  /-- `dec_out` of the latest DECODE -/
  decOut : Frame
  /-- `enc_out` of the latest ENCODE -/
  encOut : Buf
  /-- `lc_out` of the latest TOWIRE or FROMWIRE -/
  lcOut : Buf
  /-- the bit the latest internal function run on its own returned: `sent`, `applied` or pending -/
  retBit : Bool
  /-- the frame the latest DRAIN_INTO run on its own returned -/
  retFrame : Frame
  deriving DecidableEq, Repr

/-- The environment as the block meets it. The MODEL's own (log entries 4 and 6). -/
structure Env where
  /-- the operations presented and not yet run, in the order the environment chose (20_memory.md R51) -/
  requests : List Request
  /-- the largest clock sample presented so far, to notice a breach of 60_exceptions.md R238 -/
  clockSeen : Nat
  deriving DecidableEq, Repr

/-- The state of the block: the register groups of 10_state.md R10, the sampled straps `CFG` (R22, R23; log entry 1),
and the model's own view of the ports and of the environment. -/
structure State where
  cfg : Cfg
  cs : CurrentState
  pu : PendingUpdate
  fsm : Fsm
  txm : TxMailbox
  spm : StateMailbox
  lock : Lock
  out : Outputs
  env : Env
  deriving DecidableEq, Repr

/-- The outputs before any operation has run (DESIGN CHOICE, log entry 11). -/
def Outputs.idle : Outputs where
  rspPresent := false
  rspData := 0
  decOut := Frame.zero
  encOut := Buf.zero
  lcOut := Buf.zero
  retBit := false
  retFrame := Frame.zero

/-- Every state field at the value of 10_state.md R23, under the straps `c`, in the environment `e`. -/
def State.resetWith (c : Cfg) (e : Env) : State where
  cfg := c
  cs := CurrentState.zero
  pu := { dirty := 0, sh := Setpoints.zero }
  fsm := { seenSecondary := false, lastRxValid := false, lastRxTime := 0, probePending := false }
  txm := { full := false, data := Buf.zero }
  spm := { full := false, data := CurrentState.zero }
  lock := { held := false }
  out := Outputs.idle
  env := e

/-- The block right after reset (10_state.md R23), with the straps at the spec's defaults `CFG_A` (log entry 2) and
nothing presented at its ports. -/
def State.reset : State := State.resetWith cfgA { requests := [], clockSeen := 0 }

end Sys2Proof.Machine
end

