-- ==== Sys2Proof/Machine/Ops.lean ====
section
/-! DEFINITION. The named operations over State that the meanings share: the response port, the exclusive-access
region (20_memory.md R52), the pending-update register (42_pending_update.md), the mailboxes
(44_transport_mailboxes.md), the liveness pair (43_protocol_fsm.md R153), the clock (60_exceptions.md R238), reset
(70_reset_and_hazards.md R250), and the conditions under which a frame is processed. The block takes no exception and
returns from none (60_exceptions.md R233), so there is no such operation. -/

namespace Sys2Proof.Machine

/-! ### Ports and environment -/

/-- The requests still to run. -/
def State.withRequests (s : State) (rs : List Request) : State := { s with env := { s.env with requests := rs } }

/-- The operation samples the clock (60_exceptions.md R238). -/
def State.sampleClock (s : State) (now : Nat) : State := { s with env := { s.env with clockSeen := now } }

/-- A host command's response (30_encoding.md R75). -/
def State.respond (s : State) (present : Bool) (data : Word) : State :=
  { s with out := { s.out with rspPresent := present, rspData := data } }

/-- The bit an internal function returns when it is run on its own (log entry 13). -/
def State.returnBit (s : State) (b : Bool) : State := { s with out := { s.out with retBit := b } }

/-- What DRAIN_INTO returns when it is run on its own (log entry 13). -/
def State.returnFrame (s : State) (r : Frame) (applied : Bool) : State :=
  { s with out := { s.out with retBit := applied, retFrame := r } }

/-- `dec_out`. -/
def State.showDecoded (s : State) (f : Frame) : State := { s with out := { s.out with decOut := f } }

/-- `enc_out`. -/
def State.showEncoded (s : State) (b : Buf) : State := { s with out := { s.out with encOut := b } }

/-- `lc_out`. -/
def State.showLineCoded (s : State) (b : Buf) : State := { s with out := { s.out with lcOut := b } }

/-- Reset: every state field takes the value of 10_state.md R23 and the straps are sampled (70_reset_and_hazards.md
R250). The environment is not the block's and goes on (log entry 12). -/
def State.applyReset (s : State) (straps : Cfg) : State := State.resetWith straps s.env

/-! ### The exclusive-access region -/

/-- The region is entered; acquisition cannot fail (60_exceptions.md R224). -/
def State.enterRegion (s : State) : State := { s with lock := { held := true } }

/-- The region is left (10_state.md R21). -/
def State.leaveRegion (s : State) : State := { s with lock := { held := false } }

/-! ### The pending-update register -/

/-- The body of `SET_g(v)` (42_pending_update.md R121). -/
def State.stage (s : State) (g : UField) (v : Byte) : State :=
  { s with pu := { dirty := markDirty s.cfg.dirtyBit g s.pu.dirty, sh := s.pu.sh.set v g } }

/-- One field of APPLY_STATE: staged only where it differs from CurrentState (42_pending_update.md R135). -/
def State.stageIfNew (s : State) (g : UField) (v : Byte) : State :=
  if v = s.cs.toSetpoints.get g then s else s.stage g v

/-- The whole of a setter: the exclusive-access region around `SET_g(v)` and the response (42_pending_update.md R120,
R121). A value wider than the field is refused, as R120 says. -/
def setField (g : UField) (v : Byte) (s : State) : Host.Outcome State Fault Refusal :=
  if fitsIn v (s.cfg.layout.slot g).width then
    .next (((s.enterRegion.stage g v).leaveRegion).respond true 0)
  else .refused .valueOutOfWidth

/-- `HAS_PENDING()` (42_pending_update.md R129). -/
def State.pending (s : State) : Bool := anyDirty s.pu.dirty

/-- `DRAIN_INTO(r)`: the changed frame and `applied` (42_pending_update.md R130). -/
def State.drainInto (s : State) (r : Frame) : Frame × Bool :=
  ({ r with toSetpoints := drainSetpoints s.cfg.dirtyBit s.pu.dirty s.pu.sh r.toSetpoints }, s.pending)

/-- `CLEAR_DIRTY(sent)` (42_pending_update.md R131). -/
def State.clearDirty (s : State) (sent : Bool) : State :=
  { s with pu := { s.pu with dirty := clearedMask s.cfg.clearPolicy sent s.pu.dirty } }

/-! ### The mailboxes -/

/-- `TX_PUT(w)`: the state after it and `sent` (44_transport_mailboxes.md R201). -/
def State.txPut (s : State) (w : Buf) : State × Bool :=
  if s.txm.full then (s, false) else ({ s with txm := { full := true, data := w } }, true)

/-- `TRANSMIT(r)`: the state after it and `sent` (43_protocol_fsm.md R155). -/
def State.transmit (s : State) (r : Frame) : State × Bool := s.txPut (toWire (encodeFrame s.cfg.layout r))

/-- The TX slot is emptied; its bytes stay (44_transport_mailboxes.md R203, R207). -/
def State.emptyTx (s : State) : State := { s with txm := { s.txm with full := false } }

/-- `SP_PUBLISH(p)` (44_transport_mailboxes.md R205). -/
def State.publish (s : State) (p : Snapshot) : State := { s with spm := { full := true, data := p } }

/-- The state slot is emptied; its Snapshot stays (44_transport_mailboxes.md R206, R207). -/
def State.emptySp (s : State) : State := { s with spm := { s.spm with full := false } }

/-! ### The protocol flags -/

/-- The liveness update of every frame addressed to this controller (43_protocol_fsm.md R153). -/
def State.noteLiveness (s : State) (now : Nat) : State :=
  { s with fsm := { s.fsm with lastRxValid := true, lastRxTime := now } }

/-- `FSM.probePending <- b` (43_protocol_fsm.md R162, R163). -/
def State.setProbe (s : State) (b : Bool) : State := { s with fsm := { s.fsm with probePending := b } }

/-- What RX.TO_SECONDARY adopts (43_protocol_fsm.md R165). -/
def State.adoptSecondary (s : State) (temp : Byte) : State :=
  { s with
    cs := { s.cs with controllerTemp := temp }
    fsm := { s.fsm with seenSecondary := true } }

/-- RX.LOGIN.PROBE is enabled: `FSM.probePending = 1`, ROLE = PRIMARY only (43_protocol_fsm.md R163). -/
def State.probeEnabled (s : State) : Bool := s.fsm.probePending && decide (s.cfg.role = .primary)

/-! ### Processing one inbound frame -/

/-- The operation of class `k` on the decoded frame `f` at clock sample `now`, `body` being what the class does.
Enabled only while `FSM.probePending = 0` (43_protocol_fsm.md R150, R151), with a clock that does not go back
(60_exceptions.md R238), and on a frame of the class (30_encoding.md R70). -/
def onFrame (k : FrameClass) (f : Frame) (now : Nat) (s : State) (body : State → State) :
    Host.Outcome State Fault Refusal :=
  if s.fsm.probePending then .refused .frameBeforeProbe
  else if now < s.env.clockSeen then .refused .clockWentBack
  else if f.ofClass s.cfg k then .next (body (s.sampleClock now))
  else .refused .notOfClass

end Sys2Proof.Machine
end

