-- ==== Sys2Proof/Machine/Codec.lean ====
section
/-! DEFINITION. The combinational operations on the codec ports: DECODE, ENCODE (40_frame_codec.md), TOWIRE, FROMWIRE
(41_line_coding.md). They read no register and write none (R90, R113); their result stands at the output port. -/

namespace Sys2Proof.Machine

/-- DECODE (40_frame_codec.md R91, R92). -/
def execDecode (b : Buf) (s : State) : Host.Outcome State Fault Refusal :=
  .next (s.showDecoded (decodeFrame s.cfg.layout s.cfg.addrSelf b))

/-- ENCODE (40_frame_codec.md R95, R96). -/
def execEncode (f : Frame) (s : State) : Host.Outcome State Fault Refusal :=
  .next (s.showEncoded (encodeFrame s.cfg.layout f))

/-- TOWIRE (41_line_coding.md R110). -/
def execToWire (b : Buf) (s : State) : Host.Outcome State Fault Refusal :=
  .next (s.showLineCoded (toWire b))

/-- FROMWIRE (41_line_coding.md R111). -/
def execFromWire (w : Buf) (s : State) : Host.Outcome State Fault Refusal :=
  .next (s.showLineCoded (fromWire w))

end Sys2Proof.Machine
end

