-- ==== Sys2Proof/Machine/Mailbox.lean ====
section
/-! DEFINITION. The transport mailboxes (44_transport_mailboxes.md): TX_TAKE, STATE_TAKE, and the internal functions
TRANSMIT (43_protocol_fsm.md R155), TX_PUT and SP_PUBLISH run on their own. -/

namespace Sys2Proof.Machine

/-- TX_TAKE (44_transport_mailboxes.md R203). -/
def execTxTake (s : State) : Host.Outcome State Fault Refusal :=
  if s.txm.full then .next (s.emptyTx.respond true (wordOf s.txm.data))
  else .next (s.respond false 0)

/-- STATE_TAKE (44_transport_mailboxes.md R206). -/
def execStateTake (s : State) : Host.Outcome State Fault Refusal :=
  if s.spm.full then .next (s.emptySp.respond true (packSnapshot s.cfg.layout s.spm.data))
  else .next (s.respond false 0)

/-- TX_PUT (44_transport_mailboxes.md R201). -/
def execTxPut (w : Buf) (s : State) : Host.Outcome State Fault Refusal :=
  .next ((s.txPut w).1.returnBit (s.txPut w).2)

/-- TRANSMIT (43_protocol_fsm.md R155). -/
def execTransmit (r : Frame) (s : State) : Host.Outcome State Fault Refusal :=
  .next ((s.transmit r).1.returnBit (s.transmit r).2)

/-- SP_PUBLISH (44_transport_mailboxes.md R205). A Snapshot wider than its fields is refused
(92_eei_decisions.md D6). -/
def execSpPublish (p : Snapshot) (s : State) : Host.Outcome State Fault Refusal :=
  if p.fits s.cfg.layout then .next (s.publish p) else .refused .valueOutOfWidth

end Sys2Proof.Machine
end

