-- ==== Sys2Proof/Machine/Pending.lean ====
section
/-! DEFINITION. The pending-update register (42_pending_update.md): the seven setters, APPLY_STATE, the status
queries, and the internal functions HAS_PENDING, DRAIN_INTO and CLEAR_DIRTY run on their own. -/

namespace Sys2Proof.Machine

/-- SET_ONOFF (42_pending_update.md R122). -/
def execSetOnoff (v : Byte) (s : State) : Host.Outcome State Fault Refusal := setField .onOff v s

/-- SET_TEMP (42_pending_update.md R123). -/
def execSetTemp (v : Byte) (s : State) : Host.Outcome State Fault Refusal := setField .temperature v s

/-- SET_MODE (42_pending_update.md R124). -/
def execSetMode (v : Byte) (s : State) : Host.Outcome State Fault Refusal := setField .acMode v s

/-- SET_FANMODE (42_pending_update.md R125). -/
def execSetFanmode (v : Byte) (s : State) : Host.Outcome State Fault Refusal := setField .fanMode v s

/-- SET_ECONOMY (42_pending_update.md R126). -/
def execSetEconomy (v : Byte) (s : State) : Host.Outcome State Fault Refusal := setField .economyMode v s

/-- SET_SWINGMODE (42_pending_update.md R127). -/
def execSetSwingmode (v : Byte) (s : State) : Host.Outcome State Fault Refusal := setField .swingMode v s

/-- SET_SWINGSTEP (42_pending_update.md R128). -/
def execSetSwingstep (v : Byte) (s : State) : Host.Outcome State Fault Refusal := setField .swingStep v s

/-- The body of APPLY_STATE, field by field in the order of 42_pending_update.md R135. -/
def State.stageAll (s : State) (d : Setpoints) : State :=
  ((((((s.stageIfNew .onOff d.onOff).stageIfNew .temperature d.temperature).stageIfNew .acMode d.acMode).stageIfNew
    .fanMode d.fanMode).stageIfNew .economyMode d.economyMode).stageIfNew .swingMode d.swingMode).stageIfNew
    .swingStep d.swingStep

/-- APPLY_STATE, one atomic operation (42_pending_update.md R135). A value wider than its field is refused
(R120). -/
def execApplyState (d : Setpoints) (s : State) : Host.Outcome State Fault Refusal :=
  if d.fits s.cfg.layout then .next (((s.enterRegion.stageAll d).leaveRegion).respond true 0)
  else .refused .valueOutOfWidth

/-- UPDATE_PENDING (42_pending_update.md R137). -/
def execUpdatePending (s : State) : Host.Outcome State Fault Refusal :=
  .next (s.respond true (if s.pending then 1 else 0))

/-- GET_UPDATE_FIELDS (42_pending_update.md R138). -/
def execGetUpdateFields (s : State) : Host.Outcome State Fault Refusal :=
  .next (s.respond true (s.pu.dirty.setWidth 64))

/-- HAS_PENDING (42_pending_update.md R129). -/
def execHasPending (s : State) : Host.Outcome State Fault Refusal := .next (s.returnBit s.pending)

/-- DRAIN_INTO (42_pending_update.md R130). -/
def execDrainInto (r : Frame) (s : State) : Host.Outcome State Fault Refusal :=
  .next (s.returnFrame (s.drainInto r).1 (s.drainInto r).2)

/-- CLEAR_DIRTY (42_pending_update.md R131). -/
def execClearDirty (sent : Bool) (s : State) : Host.Outcome State Fault Refusal := .next (s.clearDirty sent)

end Sys2Proof.Machine
end

