-- ==== Sys2Proof/Machine/Query.lean ====
section
/-! DEFINITION. The getters (43_protocol_fsm.md R170 to R178), IS_BOUND (R180), and the reserved selectors of the host
command port (30_encoding.md R77). -/

namespace Sys2Proof.Machine

/-- Common semantics of the getters: one field, zero-extended, with `rsp_present = 1` (43_protocol_fsm.md R170). -/
def answerField (v : Byte) (s : State) : Host.Outcome State Fault Refusal := .next (s.respond true (v.setWidth 64))

/-- GET_ONOFF (43_protocol_fsm.md R171). -/
def execGetOnoff (s : State) : Host.Outcome State Fault Refusal := answerField s.cs.onOff s

/-- GET_TEMP (43_protocol_fsm.md R172). -/
def execGetTemp (s : State) : Host.Outcome State Fault Refusal := answerField s.cs.temperature s

/-- GET_MODE (43_protocol_fsm.md R173). -/
def execGetMode (s : State) : Host.Outcome State Fault Refusal := answerField s.cs.acMode s

/-- GET_FANMODE (43_protocol_fsm.md R174). -/
def execGetFanmode (s : State) : Host.Outcome State Fault Refusal := answerField s.cs.fanMode s

/-- GET_ECONOMY (43_protocol_fsm.md R175). -/
def execGetEconomy (s : State) : Host.Outcome State Fault Refusal := answerField s.cs.economyMode s

/-- GET_SWINGMODE (43_protocol_fsm.md R176). -/
def execGetSwingmode (s : State) : Host.Outcome State Fault Refusal := answerField s.cs.swingMode s

/-- GET_SWINGSTEP (43_protocol_fsm.md R177). -/
def execGetSwingstep (s : State) : Host.Outcome State Fault Refusal := answerField s.cs.swingStep s

/-- GET_CONTROLLERTEMP (43_protocol_fsm.md R178). -/
def execGetControllertemp (s : State) : Host.Outcome State Fault Refusal := answerField s.cs.controllerTemp s

/-- IS_BOUND (43_protocol_fsm.md R180). It samples the clock, which must not go back (60_exceptions.md R238). -/
def execIsBound (now : Nat) (s : State) : Host.Outcome State Fault Refusal :=
  if now < s.env.clockSeen then .refused .clockWentBack
  else
    .next ((s.sampleClock now).respond true
      (if boundTest s.fsm.lastRxValid s.fsm.lastRxTime s.cfg.boundWindow now then 1 else 0))

/-- A reserved selector: no state changes, `rsp_present = 0`, `rsp_data = 0` (30_encoding.md R77). DESIGN CHOICE, unsafe: the
hardware's view of R77 and not its second sentence's refusal (log entry 5). -/
def answerReserved (s : State) : Host.Outcome State Fault Refusal := .next (s.respond false 0)

/-- Reserved selector 0x00 (30_encoding.md R77). -/
def execReservedOpsel00 (s : State) : Host.Outcome State Fault Refusal := answerReserved s

/-- Reserved selector 0x16 (30_encoding.md R77). -/
def execReservedOpsel16 (s : State) : Host.Outcome State Fault Refusal := answerReserved s

/-- Reserved selector 0x17 (30_encoding.md R77). -/
def execReservedOpsel17 (s : State) : Host.Outcome State Fault Refusal := answerReserved s

/-- Reserved selector 0x18 (30_encoding.md R77). -/
def execReservedOpsel18 (s : State) : Host.Outcome State Fault Refusal := answerReserved s

/-- Reserved selector 0x19 (30_encoding.md R77). -/
def execReservedOpsel19 (s : State) : Host.Outcome State Fault Refusal := answerReserved s

/-- Reserved selector 0x1A (30_encoding.md R77). -/
def execReservedOpsel1A (s : State) : Host.Outcome State Fault Refusal := answerReserved s

/-- Reserved selector 0x1B (30_encoding.md R77). -/
def execReservedOpsel1B (s : State) : Host.Outcome State Fault Refusal := answerReserved s

/-- Reserved selector 0x1C (30_encoding.md R77). -/
def execReservedOpsel1C (s : State) : Host.Outcome State Fault Refusal := answerReserved s

/-- Reserved selector 0x1D (30_encoding.md R77). -/
def execReservedOpsel1D (s : State) : Host.Outcome State Fault Refusal := answerReserved s

/-- Reserved selector 0x1E (30_encoding.md R77). -/
def execReservedOpsel1E (s : State) : Host.Outcome State Fault Refusal := answerReserved s

/-- Reserved selector 0x1F (30_encoding.md R77). -/
def execReservedOpsel1F (s : State) : Host.Outcome State Fault Refusal := answerReserved s

end Sys2Proof.Machine
end

