-- ==== Sys2Proof/Machine/Rx.lean ====
section
/-! DEFINITION. The protocol state machine (43_protocol_fsm.md): the frames the block builds, one meaning per RX class,
the probe step of RX.LOGIN, and the entry point ON_FRAME_RECEIVED. -/

namespace Sys2Proof.Machine

/-! ### The frames the block builds -/

/-- The primary's login reply (43_protocol_fsm.md R157). -/
def loginReply (c : Cfg) (f : Frame) : Frame :=
  { Frame.zero with
    messageType := c.typeCode.login
    messageSource := c.addrSelf
    messageDest := c.addrUnit
    loginBit := true
    updateMagic := f.updateMagic }

/-- The secondary's announcement (43_protocol_fsm.md R158). -/
def secondaryReply (c : Cfg) (f : Frame) : Frame :=
  { f with
    messageType := c.typeCode.status
    messageSource := c.addrSelf
    broadcast := false
    messageDest := c.addrUnit
    loginBit := false
    controllerPresent := 1
    updateMagic := umSecondary
    unknownBit := true
    writeBit := false }

/-- The reply to an ordinary exchange before the drain (43_protocol_fsm.md R160). -/
def exchangeBase (c : Cfg) (seen : Bool) (f : Frame) : Frame :=
  { f with
    messageType := c.typeCode.status
    messageSource := c.addrSelf
    broadcast := false
    messageDest := if seen then c.addrSecondary else c.addrUnit
    loginBit := seen
    controllerPresent := if seen then 0 else 1
    updateMagic := umPlain
    unknownBit := true
    writeBit := false }

/-- The marks of a reply that carries an update (43_protocol_fsm.md R160). -/
def markUpdate (applied : Bool) (r : Frame) : Frame :=
  if applied then { r with writeBit := true, updateMagic := umUpdate } else r

/-- The acknowledgement of a LOGIN frame, from CurrentState (43_protocol_fsm.md R162). -/
def loginAck (c : Cfg) (cs : CurrentState) (f : Frame) : Frame :=
  { Frame.zero with
    messageType := c.typeCode.status
    messageSource := c.addrSelf
    messageDest := f.messageSource
    loginBit := true
    controllerPresent := 1
    updateMagic := umPlain
    unknownBit := true
    writeBit := false
    onOff := cs.onOff
    temperature := cs.temperature
    acMode := cs.acMode
    fanMode := cs.fanMode
    swingMode := cs.swingMode
    swingStep := cs.swingStep
    acError := cs.acError }

/-- The probe for a secondary controller (43_protocol_fsm.md R163). -/
def probeFrame (c : Cfg) : Frame :=
  { Frame.zero with
    messageType := c.typeCode.login
    messageSource := c.addrSelf
    messageDest := c.addrSecondary }

/-! ### The ordinary exchange -/

/-- The reply to an ordinary exchange, drained and marked, and `applied` (43_protocol_fsm.md R160). -/
def State.exchangeReply (s : State) (f : Frame) : Frame × Bool :=
  (markUpdate s.pending (s.drainInto (exchangeBase s.cfg s.fsm.seenSecondary f)).1, s.pending)

/-- The copy of the merged fields into CurrentState (43_protocol_fsm.md R160). -/
def State.takeMerged (s : State) (r f : Frame) : State :=
  { s with
    cs :=
      { r.toSetpoints with
        acError := f.acError
        controllerTemp :=
          if s.cfg.statusOverwritesCtrlTemp then f.controllerTemp else s.cs.controllerTemp } }

/-- The merge inside the exclusive-access region: drain, copy, put, clear (43_protocol_fsm.md R160;
20_memory.md R52). -/
def State.merge (s : State) (f : Frame) : State :=
  let s := s.enterRegion
  let reply := s.exchangeReply f
  let put := (s.takeMerged reply.1 f).transmit reply.1
  let s := if reply.2 then put.1.clearDirty put.2 else put.1
  s.leaveRegion

/-- The publication gate (43_protocol_fsm.md R161). -/
def State.publishIfClean (s : State) : State := if s.pending then s else s.publish s.cs

/-! ### One meaning per class -/

/-- RX.STATUS.LOGINREQ with ROLE = PRIMARY (43_protocol_fsm.md R157). -/
def execRxStatusLoginreq (f : Frame) (now : Nat) (s : State) : Host.Outcome State Fault Refusal :=
  onFrame .statusLoginreq f now s fun s => ((s.noteLiveness now).transmit (loginReply s.cfg f)).1

/-- RX.STATUS.LOGINREQ with ROLE = SECONDARY (43_protocol_fsm.md R158). -/
def execRxStatusLoginreqSecondary (f : Frame) (now : Nat) (s : State) : Host.Outcome State Fault Refusal :=
  onFrame .statusLoginreqSecondary f now s fun s => ((s.noteLiveness now).transmit (secondaryReply s.cfg f)).1

/-- RX.STATUS.EXCHANGE (43_protocol_fsm.md R160, R161). -/
def execRxStatusExchange (f : Frame) (now : Nat) (s : State) : Host.Outcome State Fault Refusal :=
  onFrame .statusExchange f now s fun s => ((s.noteLiveness now).merge f).publishIfClean

/-- RX.LOGIN, the acknowledgement step (43_protocol_fsm.md R162). -/
def execRxLogin (f : Frame) (now : Nat) (s : State) : Host.Outcome State Fault Refusal :=
  onFrame .login f now s fun s =>
    let s' := ((s.noteLiveness now).transmit (loginAck s.cfg s.cs f)).1
    if s.cfg.role = .primary then s'.setProbe true else s'

/-- RX.LOGIN.PROBE, the second step of RX.LOGIN with ROLE = PRIMARY (43_protocol_fsm.md R163). -/
def execRxLoginProbe (s : State) : Host.Outcome State Fault Refusal :=
  if s.probeEnabled then .next ((s.transmit (probeFrame s.cfg)).1.setProbe false)
  else .refused .probeNotEnabled

/-- RX.ERROR: the liveness update and nothing else (43_protocol_fsm.md R164). -/
def execRxError (f : Frame) (now : Nat) (s : State) : Host.Outcome State Fault Refusal :=
  onFrame .error f now s fun s => s.noteLiveness now

/-- RX.RESERVED: the liveness update and nothing else (43_protocol_fsm.md R167). -/
def execRxReserved (f : Frame) (now : Nat) (s : State) : Host.Outcome State Fault Refusal :=
  onFrame .reserved f now s fun s => s.noteLiveness now

/-- RX.TO_SECONDARY: the ambient temperature is adopted and the secondary noted (43_protocol_fsm.md R165). -/
def execRxToSecondary (f : Frame) (now : Nat) (s : State) : Host.Outcome State Fault Refusal :=
  onFrame .toSecondary f now s fun s => s.adoptSecondary f.controllerTemp

/-- RX.IGNORED: nothing (43_protocol_fsm.md R166). -/
def execRxIgnored (f : Frame) (now : Nat) (s : State) : Host.Outcome State Fault Refusal :=
  onFrame .ignored f now s fun s => s

/-- ON_FRAME_RECEIVED: FROMWIRE, DECODE, and the one class the frame falls in (43_protocol_fsm.md R150). -/
def execOnFrameReceived (raw : Buf) (now : Nat) (s : State) : Host.Outcome State Fault Refusal :=
  let f := receivedFrame s.cfg raw
  match classOf s.cfg f with
  | .statusLoginreq => execRxStatusLoginreq f now s
  | .statusLoginreqSecondary => execRxStatusLoginreqSecondary f now s
  | .statusExchange => execRxStatusExchange f now s
  | .login => execRxLogin f now s
  | .error => execRxError f now s
  | .reserved => execRxReserved f now s
  | .toSecondary => execRxToSecondary f now s
  | .ignored => execRxIgnored f now s

end Sys2Proof.Machine
end

