-- ==== Sys2Proof/Machine/Dispatch.lean ====
section
/-! DEFINITION. The dispatch: one arm per operation of opcode_table.json, each a direct call of its meaning. -/

namespace Sys2Proof.Machine

def exec (i : Instr) (s : State) : Host.Outcome State Fault Refusal :=
  match i with
  | .rxStatusLoginreq f now => Sys2Proof.Machine.execRxStatusLoginreq f now s
  | .rxStatusLoginreqSecondary f now => Sys2Proof.Machine.execRxStatusLoginreqSecondary f now s
  | .rxStatusExchange f now => Sys2Proof.Machine.execRxStatusExchange f now s
  | .rxLogin f now => Sys2Proof.Machine.execRxLogin f now s
  | .rxLoginProbe => Sys2Proof.Machine.execRxLoginProbe s
  | .rxError f now => Sys2Proof.Machine.execRxError f now s
  | .rxReserved f now => Sys2Proof.Machine.execRxReserved f now s
  | .rxToSecondary f now => Sys2Proof.Machine.execRxToSecondary f now s
  | .rxIgnored f now => Sys2Proof.Machine.execRxIgnored f now s
  | .onFrameReceived raw now => Sys2Proof.Machine.execOnFrameReceived raw now s
  | .setOnoff v => Sys2Proof.Machine.execSetOnoff v s
  | .setTemp v => Sys2Proof.Machine.execSetTemp v s
  | .setMode v => Sys2Proof.Machine.execSetMode v s
  | .setFanmode v => Sys2Proof.Machine.execSetFanmode v s
  | .setEconomy v => Sys2Proof.Machine.execSetEconomy v s
  | .setSwingmode v => Sys2Proof.Machine.execSetSwingmode v s
  | .setSwingstep v => Sys2Proof.Machine.execSetSwingstep v s
  | .applyState d => Sys2Proof.Machine.execApplyState d s
  | .getOnoff => Sys2Proof.Machine.execGetOnoff s
  | .getTemp => Sys2Proof.Machine.execGetTemp s
  | .getMode => Sys2Proof.Machine.execGetMode s
  | .getFanmode => Sys2Proof.Machine.execGetFanmode s
  | .getEconomy => Sys2Proof.Machine.execGetEconomy s
  | .getSwingmode => Sys2Proof.Machine.execGetSwingmode s
  | .getSwingstep => Sys2Proof.Machine.execGetSwingstep s
  | .getControllertemp => Sys2Proof.Machine.execGetControllertemp s
  | .isBound now => Sys2Proof.Machine.execIsBound now s
  | .updatePending => Sys2Proof.Machine.execUpdatePending s
  | .getUpdateFields => Sys2Proof.Machine.execGetUpdateFields s
  | .stateTake => Sys2Proof.Machine.execStateTake s
  | .txTake => Sys2Proof.Machine.execTxTake s
  | .reservedOpsel00 => Sys2Proof.Machine.execReservedOpsel00 s
  | .reservedOpsel16 => Sys2Proof.Machine.execReservedOpsel16 s
  | .reservedOpsel17 => Sys2Proof.Machine.execReservedOpsel17 s
  | .reservedOpsel18 => Sys2Proof.Machine.execReservedOpsel18 s
  | .reservedOpsel19 => Sys2Proof.Machine.execReservedOpsel19 s
  | .reservedOpsel1A => Sys2Proof.Machine.execReservedOpsel1A s
  | .reservedOpsel1B => Sys2Proof.Machine.execReservedOpsel1B s
  | .reservedOpsel1C => Sys2Proof.Machine.execReservedOpsel1C s
  | .reservedOpsel1D => Sys2Proof.Machine.execReservedOpsel1D s
  | .reservedOpsel1E => Sys2Proof.Machine.execReservedOpsel1E s
  | .reservedOpsel1F => Sys2Proof.Machine.execReservedOpsel1F s
  | .decode b => Sys2Proof.Machine.execDecode b s
  | .encode f => Sys2Proof.Machine.execEncode f s
  | .toWire b => Sys2Proof.Machine.execToWire b s
  | .fromWire w => Sys2Proof.Machine.execFromWire w s
  | .transmit r => Sys2Proof.Machine.execTransmit r s
  | .txPut w => Sys2Proof.Machine.execTxPut w s
  | .spPublish p => Sys2Proof.Machine.execSpPublish p s
  | .hasPending => Sys2Proof.Machine.execHasPending s
  | .drainInto r => Sys2Proof.Machine.execDrainInto r s
  | .clearDirty sent => Sys2Proof.Machine.execClearDirty sent s

end Sys2Proof.Machine
end

