-- ==== Sys2Proof/Machine/Step.lean ====
section
/-! DEFINITION. One step of the block: the environment's next request is decoded and its operation run
(10_state.md R12, 20_memory.md R51, 60_exceptions.md R230). -/

namespace Sys2Proof.Machine

/-- One request, the rest of them being `rest`: reset is an event of its own (70_reset_and_hazards.md R250); any other
request decodes to an operation, which runs in a configuration that meets R2. -/
def serve (r : Request) (rest : List Request) (s : State) : Host.Outcome State Fault Refusal :=
  match decode s.cfg r with
  | .error (.resetEvent straps) => .next ((s.withRequests rest).applyReset straps)
  | .ok i => if s.cfg.wf then exec i (s.withRequests rest) else .refused .badConfig

/-- One step. With nothing presented the block is idle and keeps all its state (60_exceptions.md R239). -/
def step (s : State) : Host.Outcome State Fault Refusal :=
  match s.env.requests with
  | [] => .next s
  | r :: rest => serve r rest s

/-- `s` with a word of opcode_table.json presented first at its port (log entries 4 and 16). -/
def State.withFetchWord (s : State) (nbits w : Nat) : State :=
  s.withRequests (tableRequest nbits w s.env.clockSeen :: s.env.requests)

end Sys2Proof.Machine
end

