-- ==== Sys2Proof/Safety.lean ====
section
/-! DEFINITION. What a good state and a good request are, and the terms the statements use: the invariant of the
block, the enabled requests (60_exceptions.md R230), the contexts (R235), the covered bits of a buffer
(40_frame_codec.md R99). -/

namespace Sys2Proof.Safety

open Sys2Proof.Machine

/-- A good state: the configuration meets R2; every value has its field's width (10_state.md R13, R14, R15); the
exclusive-access region is free between operations (R21); a probe is pending only with ROLE = PRIMARY (R18); the
liveness stamp is a clock sample already seen (R17, 60_exceptions.md R238); and the straps that a pending reset would
sample meet R2 (70_reset_and_hazards.md R253). -/
structure Good (s : State) : Prop where
  cfg_wf : s.cfg.wf = true
  cs_fits : s.cs.fits s.cfg.layout = true
  shadows_fit : s.pu.sh.fits s.cfg.layout = true
  snapshot_fits : s.spm.data.fits s.cfg.layout = true
  region_free : s.lock.held = false
  probe_primary : s.fsm.probePending = true → s.cfg.role = .primary
  stamp_seen : s.fsm.lastRxTime ≤ s.env.clockSeen
  straps_wf : ∀ c, Request.reset c ∈ s.env.requests → c.wf = true

/-- The next request is not a reset. -/
def NoReset (s : State) : Prop := ∀ c rest, s.env.requests ≠ .reset c :: rest

/-- The width of the host command port: `opsel` above `arg` (30_encoding.md R74). -/
def commandWidth (l : Layout) : Nat := 5 + argWidth l

/-- A request that may run in state `s`: every host command; a frame while no probe is pending; the probe
while it is; every input of the codec ports; and a clock that does not go back, for the operations that sample it (60_exceptions.md R230, R238;
43_protocol_fsm.md R163). A reset may come at any time (70_reset_and_hazards.md R250). -/
def enabled (s : State) : Request → Bool
  | .rx _ now => !s.fsm.probePending && decide (s.env.clockSeen ≤ now)
  | .host cmd now =>
    opselOf s.cfg.layout cmd != 0x11 || decide (s.env.clockSeen ≤ now)
  | .probe => s.probeEnabled
  | .decIn _ => true
  | .encIn _ => true
  | .lcToWire _ => true
  | .lcFromWire _ => true
  | .reset _ => true

/-- The two execution contexts (60_exceptions.md R235). -/
inductive Context where
  | transport
  | caller
  deriving DecidableEq, Repr

/-- The context of an operation; the codec ports, the reserved selectors and the internal functions are of none
(60_exceptions.md R235). -/
def contextOf : Instr → Option Context
  | .rxStatusLoginreq _ _ => some .transport
  | .rxStatusLoginreqSecondary _ _ => some .transport
  | .rxStatusExchange _ _ => some .transport
  | .rxLogin _ _ => some .transport
  | .rxLoginProbe => some .transport
  | .rxError _ _ => some .transport
  | .rxReserved _ _ => some .transport
  | .rxToSecondary _ _ => some .transport
  | .rxIgnored _ _ => some .transport
  | .onFrameReceived _ _ => some .transport
  | .setOnoff _ => some .caller
  | .setTemp _ => some .caller
  | .setMode _ => some .caller
  | .setFanmode _ => some .caller
  | .setEconomy _ => some .caller
  | .setSwingmode _ => some .caller
  | .setSwingstep _ => some .caller
  | .applyState _ => some .caller
  | .getOnoff => some .caller
  | .getTemp => some .caller
  | .getMode => some .caller
  | .getFanmode => some .caller
  | .getEconomy => some .caller
  | .getSwingmode => some .caller
  | .getSwingstep => some .caller
  | .getControllertemp => some .caller
  | .isBound _ => some .caller
  | .updatePending => some .caller
  | .getUpdateFields => some .caller
  | .stateTake => some .caller
  | .txTake => some .transport
  | .reservedOpsel00 => none
  | .reservedOpsel16 => none
  | .reservedOpsel17 => none
  | .reservedOpsel18 => none
  | .reservedOpsel19 => none
  | .reservedOpsel1A => none
  | .reservedOpsel1B => none
  | .reservedOpsel1C => none
  | .reservedOpsel1D => none
  | .reservedOpsel1E => none
  | .reservedOpsel1F => none
  | .decode _ => none
  | .encode _ => none
  | .toWire _ => none
  | .fromWire _ => none
  | .transmit _ => none
  | .txPut _ => none
  | .spPublish _ => none
  | .hasPending => none
  | .drainInto _ => none
  | .clearDirty _ => none

/-- The setter of an updatable field (42_pending_update.md R121 to R128). -/
def setterOf (v : Byte) : UField → Instr
  | .onOff => .setOnoff v
  | .temperature => .setTemp v
  | .acMode => .setMode v
  | .fanMode => .setFanmode v
  | .economyMode => .setEconomy v
  | .swingMode => .setSwingmode v
  | .swingStep => .setSwingstep v

/-- The state fields of a frame with their rows of `LAYOUT`. -/
def stateFields (l : Layout) (f : Frame) : List (Slot × Byte) :=
  [(l.onOff, f.onOff), (l.temperature, f.temperature), (l.acMode, f.acMode), (l.fanMode, f.fanMode),
    (l.economyMode, f.economyMode), (l.swingMode, f.swingMode), (l.swingStep, f.swingStep),
    (l.controllerPresent, f.controllerPresent), (l.updateMagic, f.updateMagic),
    (l.controllerTemp, f.controllerTemp), (l.acError, f.acError)]

/-- Byte `i` of the state fields: each field's bits at its own row, all other bits 0 (40_frame_codec.md R95). -/
def bodyByte (l : Layout) (f : Frame) (i : Fin 8) : Byte :=
  ((stateFields l f).filter fun q => decide (q.1.index = i)).foldr
    (fun q acc => ((q.2 <<< q.1.shift) &&& q.1.mask) ||| acc) 0

/-- The covered bits of byte `i` of bytes 3 to 7: the OR of the masks of `LAYOUT` with index `i`
(40_frame_codec.md R99). -/
def coveredByte (l : Layout) (i : Fin 8) : Byte :=
  (l.slots.filter fun p => decide (p.index = i)).foldr (fun p acc => p.mask ||| acc) 0

/-- `COVER(buf)` (40_frame_codec.md R99). -/
def coverOf (l : Layout) (b : Buf) : Buf :=
  ⟨0xFF, if b.b0.getLsbD 7 then 0xA0 else 0xFF, 0x38, coveredByte l 3, coveredByte l 4, coveredByte l 5,
    coveredByte l 6, coveredByte l 7⟩

/-- Bytewise AND. -/
def andBuf (x y : Buf) : Buf :=
  ⟨x.b0 &&& y.b0, x.b1 &&& y.b1, x.b2 &&& y.b2, x.b3 &&& y.b3, x.b4 &&& y.b4, x.b5 &&& y.b5, x.b6 &&& y.b6,
    x.b7 &&& y.b7⟩

/-- The TX mailbox after one TRANSMIT of `r`: the old frame stays if the slot is full, else the slot holds the
line-coded bytes of `r` (43_protocol_fsm.md R155; 44_transport_mailboxes.md R201). -/
def sentInto (c : Cfg) (m : TxMailbox) (r : Frame) : TxMailbox :=
  if m.full then m else { full := true, data := toWire (encodeFrame c.layout r) }

end Sys2Proof.Safety
end

