-- ==== Sys2Proof/Certificates/Slice0/Obligations.lean ====
section
/-! DEFINITION. The statements for the provers. Every statement about a state holds for every configuration that the
state may hold, unless it says otherwise; a statement that rests on a choice of the model names its log entry. -/

open Sys2Proof Sys2Proof.Machine Sys2Proof.Safety

/-! ### The frame codec and the line coding -/

/-- R98: the round trip of every frame whose fields fit, with the two exceptions that the shared wire bit and the
broadcast flag force. -/
def Obligations.DecodingAnEncodedFrameGivesItBack : Prop :=
  ∀ (l : Layout) (self : BitVec 7) (f : Frame), l.wf = true → f.fits l = true →
    decodeFrame l self (encodeFrame l f) =
        { f with
          messageDest :=
            if f.broadcast then self else f.messageDest ||| (if f.loginBit then 0x20#7 else 0#7)
          loginBit := f.loginBit || (!f.broadcast && f.messageDest.getLsbD 5) } ∧
      ((f.broadcast = false → f.loginBit = f.messageDest.getLsbD 5) →
        (f.broadcast = true → f.messageDest = self) →
          decodeFrame l self (encodeFrame l f) = f)

/-- R99, which the spec marks as derived from R91 and R95: the reverse law, and the default masks of bytes 3 to 7. -/
def Obligations.EncodingADecodedBufferKeepsTheCoveredBits : Prop :=
  (∀ (l : Layout) (a : BitVec 7) (b : Buf), l.wf = true →
      encodeFrame l (decodeFrame l a b) = andBuf b (coverOf l b)) ∧
    [coveredByte Layout.default 3, coveredByte Layout.default 4, coveredByte Layout.default 5,
      coveredByte Layout.default 6, coveredByte Layout.default 7] = [0xFF, 0xFF, 0xF6, 0x7F, 0x00]

/-- R67, and R93, which the spec marks as derived from R91 and R67: bits that no field covers, and the destination bits
of a broadcast frame, do not reach the Frame; so DECODE is not injective. -/
def Obligations.UncoveredBitsDoNotReachTheFrame : Prop :=
  ∀ (l : Layout) (a : BitVec 7), l.wf = true →
    (∀ b b' : Buf, andBuf b (coverOf l b) = andBuf b' (coverOf l b') → decodeFrame l a b = decodeFrame l a b') ∧
      ∃ b b' : Buf, b ≠ b' ∧ decodeFrame l a b = decodeFrame l a b'

/-- R100. -/
def Obligations.BroadcastFrameDecodesToTheOwnAddress : Prop :=
  ∀ (l : Layout) (a : BitVec 7) (b : Buf), b.b0.getLsbD 7 = true →
    (decodeFrame l a b).messageDest = a ∧ (decodeFrame l a b).broadcast = true

/-- R64: every header field is EXTRACT of its (byte index, mask, shift), the destination when the frame is not
broadcast. -/
def Obligations.HeaderFieldsStandAtTheirFixedPositions : Prop :=
  ∀ (l : Layout) (a : BitVec 7) (b : Buf),
    let f := decodeFrame l a b
    f.messageSource.setWidth 8 = extract ⟨0, 0x7F, 0⟩ b ∧
      flag f.broadcast = extract ⟨0, 0x80, 7⟩ b ∧
      (f.broadcast = false → f.messageDest.setWidth 8 = extract ⟨1, 0x7F, 0⟩ b) ∧
      flag f.unknownBit = extract ⟨1, 0x80, 7⟩ b ∧
      flag f.loginBit = extract ⟨1, 0x20, 5⟩ b ∧
      f.messageType.setWidth 8 = extract ⟨2, 0x30, 4⟩ b ∧
      flag f.writeBit = extract ⟨2, 0x08, 3⟩ b

/-- R65: ENCODE writes the OR of `loginBit` and `messageDest[5]` into byte 1 bit 5, DECODE reads that bit into both. -/
def Obligations.LoginBitAndDestinationBitFiveShareOneWireBit : Prop :=
  ∀ (l : Layout) (a : BitVec 7) (f : Frame) (b : Buf), l.wf = true →
    ((encodeFrame l f).b1.getLsbD 5 = (f.loginBit || (!f.broadcast && f.messageDest.getLsbD 5))) ∧
      ((decodeFrame l a b).loginBit = b.b1.getLsbD 5) ∧
      ((decodeFrame l a b).broadcast = false →
        (decodeFrame l a b).messageDest.getLsbD 5 = b.b1.getLsbD 5)

/-- R91: DECODE completes in every state and its result stands at `dec_out`; nothing else changes. -/
def Obligations.DecodeReadsEveryFieldFromItsBits : Prop :=
  ∀ (b : Buf) (s : State), ∃ f : Frame,
    exec (.decode b) s = .next { s with out := { s.out with decOut := f } } ∧
      f.messageSource = b.b0.extractLsb' 0 7 ∧
      f.broadcast = b.b0.getLsbD 7 ∧
      f.messageDest = (if b.b0.getLsbD 7 then s.cfg.addrSelf else b.b1.extractLsb' 0 7) ∧
      f.unknownBit = b.b1.getLsbD 7 ∧
      f.loginBit = b.b1.getLsbD 5 ∧
      f.messageType = b.b2.extractLsb' 4 2 ∧
      f.writeBit = b.b2.getLsbD 3 ∧
      ∀ q ∈ stateFields s.cfg.layout f, q.2 = (b.get q.1.index &&& q.1.mask) >>> q.1.shift

/-- R95: ENCODE completes in every state and its result stands at `enc_out`; nothing else changes. -/
def Obligations.EncodeWritesEveryFieldThroughItsOwnRow : Prop :=
  ∀ (f : Frame) (s : State), s.cfg.layout.wf = true → ∃ b : Buf,
    exec (.encode f) s = .next { s with out := { s.out with encOut := b } } ∧
      b.b0 = (f.messageSource.setWidth 8 ||| (flag f.broadcast <<< 7)) ∧
      b.b1 = ((if f.broadcast then 0 else f.messageDest.setWidth 8) ||| (flag f.loginBit <<< 5)
        ||| (flag f.unknownBit <<< 7)) ∧
      b.b2 = ((f.messageType.setWidth 8 <<< 4) ||| (flag f.writeBit <<< 3)) ∧
      ∀ i : Fin 8, 3 ≤ i.val → b.get i = bodyByte s.cfg.layout f i

/-- R110, R111: TOWIRE and FROMWIRE complete in every state, complement every byte, and undo each other. -/
def Obligations.LineCodingComplementsEveryByte : Prop :=
  ∀ (b : Buf) (s : State),
    exec (.toWire b) s = .next { s with out := { s.out with lcOut :=
        ⟨~~~b.b0, ~~~b.b1, ~~~b.b2, ~~~b.b3, ~~~b.b4, ~~~b.b5, ~~~b.b6, ~~~b.b7⟩ } } ∧
      exec (.fromWire b) s = .next { s with out := { s.out with lcOut :=
        ⟨~~~b.b0, ~~~b.b1, ~~~b.b2, ~~~b.b3, ~~~b.b4, ~~~b.b5, ~~~b.b6, ~~~b.b7⟩ } } ∧
      fromWire (toWire b) = b ∧ toWire (fromWire b) = b

/-! ### The pending-update register -/

/-- R121: every setter stages its field alone: its shadow, its dirty bit, the response, and nothing else (the
exclusive-access region is free afterwards, R21). -/
def Obligations.SetterStagesItsFieldAlone : Prop :=
  ∀ (g : UField) (v : Byte) (s : State), v.toNat < 2 ^ (s.cfg.layout.slot g).width →
    exec (setterOf v g) s = .next { s with
      pu := { dirty := s.pu.dirty ||| (1#7 <<< (s.cfg.dirtyBit.bit g).val), sh := s.pu.sh.set v g }
      lock := { held := false }
      out := { s.out with rspPresent := true, rspData := 0 } }

/-- R120: a value wider than its field is refused by a setter. That APPLY_STATE and SP_PUBLISH refuse it too is the
model's choice (log entry 17). -/
def Obligations.ValueWiderThanItsFieldIsRefused : Prop :=
  (∀ (g : UField) (v : Byte) (s : State), 2 ^ (s.cfg.layout.slot g).width ≤ v.toNat →
      exec (setterOf v g) s = .refused .valueOutOfWidth) ∧
    (∀ (d : Setpoints) (s : State) (g : UField), 2 ^ (s.cfg.layout.slot g).width ≤ (d.get g).toNat →
      exec (.applyState d) s = .refused .valueOutOfWidth) ∧
    (∀ (p : Snapshot) (s : State), p.fits s.cfg.layout = false →
      exec (.spPublish p) s = .refused .valueOutOfWidth)

/-- R231, R236: setters of two fields commute, and the last setter on a field wins. -/
def Obligations.SettersCommuteAndTheLastOneWins : Prop :=
  (∀ (g h : UField) (v w : Byte) (s t u t' u' : State), g ≠ h →
      exec (setterOf v g) s = .next t → exec (setterOf w h) t = .next u →
      exec (setterOf w h) s = .next t' → exec (setterOf v g) t' = .next u' → u = u') ∧
    (∀ (g : UField) (v w : Byte) (s t u : State),
      exec (setterOf v g) s = .next t → exec (setterOf w g) t = .next u →
      exec (setterOf w g) s = .next u)

/-- R135: APPLY_STATE stages exactly the fields that differ from CurrentState. -/
def Obligations.ApplyStateStagesExactlyTheDifferingFields : Prop :=
  ∀ (d : Setpoints) (s : State), s.cfg.dirtyBit.wf = true →
    (∀ g, (d.get g).toNat < 2 ^ (s.cfg.layout.slot g).width) →
    ∃ p : PendingUpdate,
      exec (.applyState d) s = .next { s with
        pu := p, lock := { held := false }, out := { s.out with rspPresent := true, rspData := 0 } } ∧
      ∀ g, if d.get g = s.cs.toSetpoints.get g then
          p.sh.get g = s.pu.sh.get g ∧
            p.dirty.getLsbD (s.cfg.dirtyBit.bit g).val = s.pu.dirty.getLsbD (s.cfg.dirtyBit.bit g).val
        else p.sh.get g = d.get g ∧ p.dirty.getLsbD (s.cfg.dirtyBit.bit g).val = true

/-- R129, R137, R138: the status queries report the dirty mask and change nothing. -/
def Obligations.StatusQueriesReportTheDirtyMask : Prop :=
  ∀ s : State,
    exec .updatePending s = .next { s with out :=
        { s.out with rspPresent := true, rspData := if s.pu.dirty = 0 then 0 else 1 } } ∧
      exec .getUpdateFields s = .next { s with out :=
        { s.out with rspPresent := true, rspData := s.pu.dirty.setWidth 64 } } ∧
      exec .hasPending s = .next { s with out := { s.out with retBit := decide (s.pu.dirty ≠ 0) } }

/-- R130: DRAIN_INTO copies the shadows of the dirty fields into the frame and touches nothing else. -/
def Obligations.DrainCopiesTheDirtyShadowsOnly : Prop :=
  ∀ (r : Frame) (s : State), ∃ p : Setpoints,
    exec (.drainInto r) s = .next { s with out :=
        { s.out with retBit := decide (s.pu.dirty ≠ 0), retFrame := { r with toSetpoints := p } } } ∧
      ∀ g, p.get g =
        if s.pu.dirty.getLsbD (s.cfg.dirtyBit.bit g).val then s.pu.sh.get g else r.toSetpoints.get g

/-- R131: CLEAR_DIRTY under the three policies; the shadows keep their values. -/
def Obligations.ClearingTheDirtyMaskFollowsThePolicy : Prop :=
  ∀ (sent : Bool) (s : State), exec (.clearDirty sent) s = .next { s with pu := { s.pu with dirty :=
      match s.cfg.clearPolicy with
      | .afterHandoff => if sent then 0 else s.pu.dirty
      | .onMerge => 0
      | .never => s.pu.dirty } }

/-- R130, its corner cases: DRAIN_INTO completes in every state; draining its frame again changes nothing more, the mask
being left to CLEAR_DIRTY; and with nothing dirty the frame comes back unchanged with `applied` = 0. -/
def Obligations.DrainCompletesAndMayBeRepeated : Prop :=
  ∀ (r : Frame) (s : State), ∃ t : State,
    exec (.drainInto r) s = .next t ∧
      exec (.drainInto t.out.retFrame) t = .next t ∧
      t.pu = s.pu ∧
      (s.pu.dirty = 0 → t.out.retFrame = r ∧ t.out.retBit = false)

/-! ### The mailboxes -/

/-- R155, R201: TX_PUT and TRANSMIT fill an empty slot and drop the new frame when the slot is full. -/
def Obligations.PutIntoAFullSlotDropsTheNewFrame : Prop :=
  ∀ (w : Buf) (r : Frame) (s : State),
    (s.txm.full = false →
      exec (.txPut w) s = .next { s with
          txm := { full := true, data := w }, out := { s.out with retBit := true } } ∧
        exec (.transmit r) s = .next { s with
          txm := { full := true, data := toWire (encodeFrame s.cfg.layout r) }
          out := { s.out with retBit := true } }) ∧
      (s.txm.full = true →
        exec (.txPut w) s = .next { s with out := { s.out with retBit := false } } ∧
          exec (.transmit r) s = .next { s with out := { s.out with retBit := false } })

/-- R205: SP_PUBLISH overwrites the slot. -/
def Obligations.PublishingOverwritesTheStateSlot : Prop :=
  ∀ (p : Snapshot) (s : State), p.fits s.cfg.layout = true →
    exec (.spPublish p) s = .next { s with spm := { full := true, data := p } }

/-- R203, R206: a take answers the slot's content and empties the slot, and answers "empty" on an empty one. How a
Snapshot is packed is R78 under the default widths and the model's reading of it under another `LAYOUT` (log entry 10). -/
def Obligations.TakeAnswersAndEmptiesTheSlot : Prop :=
  ∀ s : State,
    exec .txTake s = .next
        (if s.txm.full then
          { s with
            txm := { s.txm with full := false }
            out := { s.out with rspPresent := true, rspData :=
              s.txm.data.b7 ++ s.txm.data.b6 ++ s.txm.data.b5 ++ s.txm.data.b4 ++ s.txm.data.b3
                ++ s.txm.data.b2 ++ s.txm.data.b1 ++ s.txm.data.b0 } }
        else { s with out := { s.out with rspPresent := false, rspData := 0 } }) ∧
      exec .stateTake s = .next
        (if s.spm.full then
          { s with
            spm := { s.spm with full := false }
            out := { s.out with rspPresent := true, rspData := packSnapshot s.cfg.layout s.spm.data } }
        else { s with out := { s.out with rspPresent := false, rspData := 0 } })

/-- R78: the places of the nine fields in a packed Snapshot, default widths. -/
def Obligations.SnapshotFieldsStandAtTheirPlaces : Prop :=
  ∀ p : Snapshot, p.fits Layout.default = true →
    (packSnapshot Layout.default p).toNat =
      p.onOff.toNat + p.temperature.toNat * 2 ^ 1 + p.acMode.toNat * 2 ^ 8 + p.fanMode.toNat * 2 ^ 11
        + p.economyMode.toNat * 2 ^ 14 + p.swingMode.toNat * 2 ^ 15 + p.swingStep.toNat * 2 ^ 16
        + p.acError.toNat * 2 ^ 17 + p.controllerTemp.toNat * 2 ^ 18

/-- R207, R169 and R252, which the spec marks as derived from its rules on the operations: over one step other than a
reset, the TX slot is filled only by a frame or a probe and emptied only by TX_TAKE, the state slot is filled only by an
exchange and emptied only by STATE_TAKE, and the TX bytes change only when the slot is filled. -/
def Obligations.MailboxesChangeOnlyByTheirOwnOperations : Prop :=
  ∀ s t : State, NoReset s → step s = .next t →
    (t.txm.data ≠ s.txm.data → s.txm.full = false ∧ t.txm.full = true) ∧
      (s.txm.full = false → t.txm.full = true →
        ∃ r rest, s.env.requests = r :: rest ∧ (r = .probe ∨ ∃ raw now, r = .rx raw now)) ∧
      (s.txm.full = true → t.txm.full = false →
        ∃ r rest, s.env.requests = r :: rest ∧ decode s.cfg r = .ok .txTake) ∧
      (t.spm ≠ s.spm →
        (∃ r rest f now, s.env.requests = r :: rest ∧ decode s.cfg r = .ok (.rxStatusExchange f now) ∧
            t.spm = { full := true, data := t.cs }) ∨
          (∃ r rest, s.env.requests = r :: rest ∧ decode s.cfg r = .ok .stateTake ∧
            t.spm = { s.spm with full := false }))

/-! ### Getters and the liveness query -/

/-- R171 to R178: a getter answers its CurrentState field and changes nothing. -/
def Obligations.GettersAnswerCurrentState : Prop :=
  ∀ s : State,
    exec .getOnoff s = .next { s with out :=
        { s.out with rspPresent := true, rspData := s.cs.onOff.setWidth 64 } } ∧
      exec .getTemp s = .next { s with out :=
        { s.out with rspPresent := true, rspData := s.cs.temperature.setWidth 64 } } ∧
      exec .getMode s = .next { s with out :=
        { s.out with rspPresent := true, rspData := s.cs.acMode.setWidth 64 } } ∧
      exec .getFanmode s = .next { s with out :=
        { s.out with rspPresent := true, rspData := s.cs.fanMode.setWidth 64 } } ∧
      exec .getEconomy s = .next { s with out :=
        { s.out with rspPresent := true, rspData := s.cs.economyMode.setWidth 64 } } ∧
      exec .getSwingmode s = .next { s with out :=
        { s.out with rspPresent := true, rspData := s.cs.swingMode.setWidth 64 } } ∧
      exec .getSwingstep s = .next { s with out :=
        { s.out with rspPresent := true, rspData := s.cs.swingStep.setWidth 64 } } ∧
      exec .getControllertemp s = .next { s with out :=
        { s.out with rspPresent := true, rspData := s.cs.controllerTemp.setWidth 64 } }

/-- R180: IS_BOUND compares the clock sample with the liveness pair. Only `env.clockSeen`, the model's record of the
clock (log entry 6), and the response change. -/
def Obligations.IsBoundTestsTheLivenessPair : Prop :=
  ∀ (now : Nat) (s : State), s.env.clockSeen ≤ now →
    exec (.isBound now) s = .next { s with
      out := { s.out with rspPresent := true, rspData :=
        if s.fsm.lastRxValid = true ∧ now - s.fsm.lastRxTime ≤ s.cfg.ticksPerSecond then 1 else 0 }
      env := { s.env with clockSeen := now } }

/-- R153, R180: after a frame addressed to this controller IS_BOUND answers 1 for exactly one second. -/
def Obligations.BoundForExactlyOneSecondAfterAFrameToSelf : Prop :=
  ∀ (raw : Buf) (now later : Nat) (s t : State),
    exec (.onFrameReceived raw now) s = .next t →
    addressedToMe s.cfg (receivedFrame s.cfg raw) = true → now ≤ later →
    ∃ u, exec (.isBound later) t = .next u ∧
      u.out.rspData = if later - now ≤ s.cfg.ticksPerSecond then 1 else 0

/-- The model's choice (log entry 5): a reserved selector has the hardware effect R77 states, where R77 also says that a
model may refuse it. -/
def Obligations.ReservedSelectorsChangeNothing : Prop :=
  ∀ (s : State),
    ∀ i ∈ [Instr.reservedOpsel00, .reservedOpsel16, .reservedOpsel17, .reservedOpsel18, .reservedOpsel19,
        .reservedOpsel1A, .reservedOpsel1B, .reservedOpsel1C, .reservedOpsel1D, .reservedOpsel1E,
        .reservedOpsel1F],
      exec i s = .next { s with out := { s.out with rspPresent := false, rspData := 0 } }

/-! ### The protocol state machine -/

/-- R152: the address filter on the plain bytes. -/
def Obligations.AddressFilterReadsTheBroadcastBitThenTheDestination : Prop :=
  ∀ (c : Cfg) (p : Buf),
    let f := decodeFrame c.layout c.addrSelf p
    (addressedToMe c f = true ↔
        p.b0.getLsbD 7 = true ∨ (p.b0.getLsbD 7 = false ∧ p.b1.extractLsb' 0 7 = c.addrSelf)) ∧
      (addressedToSecondary c f = true ↔
        addressedToMe c f = false ∧ f.messageDest = c.addrSecondary) ∧
      (c.addrSelf = c.addrSecondary → addressedToSecondary c f = false)

/-- R70: the classes as word patterns, default `TYPE_CODE`, for a frame to this controller, and as address conditions
for any other. -/
def Obligations.FrameClassesAreWordPatterns : Prop :=
  ∀ (c : Cfg) (p : Buf), c.typeCode = TypeCode.default →
    let f := decodeFrame c.layout c.addrSelf p
    if f.messageDest = c.addrSelf then
      (wordOf p &&& 0x302000#64 = 0x102000#64 ↔
          classOf c f = (match c.role with
            | .primary => .statusLoginreq
            | .secondary => .statusLoginreqSecondary)) ∧
        (wordOf p &&& 0x302000#64 = 0x100000#64 ↔ classOf c f = .statusExchange) ∧
        (wordOf p &&& 0x300000#64 = 0x200000#64 ↔ classOf c f = .login) ∧
        (wordOf p &&& 0x300000#64 = 0x300000#64 ↔ classOf c f = .error) ∧
        (wordOf p &&& 0x300000#64 = 0x000000#64 ↔ classOf c f = .reserved)
    else classOf c f = if f.messageDest = c.addrSecondary then .toSecondary else .ignored

/-- R150: ON_FRAME_RECEIVED is the operation of the one class of the decoded frame, and where it is enabled it always
completes. -/
def Obligations.EveryEnabledFrameIsProcessedByItsClass : Prop :=
  ∀ (raw : Buf) (now : Nat) (s : State), s.cfg.wf = true → s.fsm.probePending = false →
    s.env.clockSeen ≤ now →
    let f := decodeFrame s.cfg.layout s.cfg.addrSelf
      ⟨~~~raw.b0, ~~~raw.b1, ~~~raw.b2, ~~~raw.b3, ~~~raw.b4, ~~~raw.b5, ~~~raw.b6, ~~~raw.b7⟩
    ∃ t, exec (.onFrameReceived raw now) s = .next t ∧ t.env.clockSeen = now ∧ t.cfg = s.cfg ∧
      if f.messageDest = s.cfg.addrSelf then
        (f.messageType = s.cfg.typeCode.status → f.loginBit = true → s.cfg.role = .primary →
            exec (.rxStatusLoginreq f now) s = .next t) ∧
          (f.messageType = s.cfg.typeCode.status → f.loginBit = true → s.cfg.role = .secondary →
            exec (.rxStatusLoginreqSecondary f now) s = .next t) ∧
          (f.messageType = s.cfg.typeCode.status → f.loginBit = false →
            exec (.rxStatusExchange f now) s = .next t) ∧
          (f.messageType = s.cfg.typeCode.login → exec (.rxLogin f now) s = .next t) ∧
          (f.messageType = s.cfg.typeCode.error → exec (.rxError f now) s = .next t) ∧
          (f.messageType = s.cfg.typeCode.reserved → exec (.rxReserved f now) s = .next t)
      else if f.messageDest = s.cfg.addrSecondary then exec (.rxToSecondary f now) s = .next t
      else exec (.rxIgnored f now) s = .next t

/-- R157: the primary answers a login request with a fresh LOGIN frame to the unit. -/
def Obligations.PrimaryAnswersALoginRequestWithLogin : Prop :=
  ∀ (f : Frame) (now : Nat) (s : State), s.fsm.probePending = false → s.env.clockSeen ≤ now →
    f.ofClass s.cfg .statusLoginreq = true →
    exec (.rxStatusLoginreq f now) s = .next { s with
      fsm := { s.fsm with lastRxValid := true, lastRxTime := now }
      txm := sentInto s.cfg s.txm { Frame.zero with
        messageType := s.cfg.typeCode.login, messageSource := s.cfg.addrSelf, messageDest := s.cfg.addrUnit
        loginBit := true, updateMagic := f.updateMagic }
      env := { s.env with clockSeen := now } }

/-- R158: the secondary answers a login request with an announcing STATUS frame that keeps the inbound state fields. -/
def Obligations.SecondaryAnswersALoginRequestWithStatus : Prop :=
  ∀ (f : Frame) (now : Nat) (s : State), s.fsm.probePending = false → s.env.clockSeen ≤ now →
    f.ofClass s.cfg .statusLoginreqSecondary = true →
    exec (.rxStatusLoginreqSecondary f now) s = .next { s with
      fsm := { s.fsm with lastRxValid := true, lastRxTime := now }
      txm := sentInto s.cfg s.txm { f with
        messageType := s.cfg.typeCode.status, messageSource := s.cfg.addrSelf, broadcast := false
        messageDest := s.cfg.addrUnit, loginBit := false, controllerPresent := 1, updateMagic := 2
        unknownBit := true, writeBit := false }
      env := { s.env with clockSeen := now } }

/-- R160, R161 (with R130, R131, R155): the ordinary exchange, whole. -/
def Obligations.ExchangeMergesRepliesAndPublishes : Prop :=
  ∀ (f : Frame) (now : Nat) (s : State), s.fsm.probePending = false → s.env.clockSeen ≤ now →
    f.ofClass s.cfg .statusExchange = true →
    ∃ (p : Setpoints) (mask : BitVec 7),
      (∀ g, p.get g =
          if s.pu.dirty.getLsbD (s.cfg.dirtyBit.bit g).val then s.pu.sh.get g else f.toSetpoints.get g) ∧
        (mask = if s.pu.dirty = 0 then 0 else
          match s.cfg.clearPolicy with
          | .afterHandoff => if s.txm.full then s.pu.dirty else 0
          | .onMerge => 0
          | .never => s.pu.dirty) ∧
        exec (.rxStatusExchange f now) s =
          let cs : CurrentState := { p with
            acError := f.acError
            controllerTemp := if s.cfg.statusOverwritesCtrlTemp then f.controllerTemp else s.cs.controllerTemp }
          .next { s with
            cs := cs
            pu := { s.pu with dirty := mask }
            fsm := { s.fsm with lastRxValid := true, lastRxTime := now }
            txm := sentInto s.cfg s.txm { f with
              toSetpoints := p
              messageType := s.cfg.typeCode.status, messageSource := s.cfg.addrSelf, broadcast := false
              messageDest := if s.fsm.seenSecondary then s.cfg.addrSecondary else s.cfg.addrUnit
              loginBit := s.fsm.seenSecondary
              controllerPresent := if s.fsm.seenSecondary then 0 else 1
              updateMagic := if s.pu.dirty = 0 then 0 else 10
              unknownBit := true, writeBit := decide (s.pu.dirty ≠ 0) }
            spm := if mask = 0 then { full := true, data := cs } else s.spm
            lock := { held := false }
            env := { s.env with clockSeen := now } }

/-- R162: a LOGIN frame is acknowledged to its own source from CurrentState, and as primary a probe becomes pending. -/
def Obligations.LoginIsAcknowledgedFromCurrentState : Prop :=
  ∀ (f : Frame) (now : Nat) (s : State), s.fsm.probePending = false → s.env.clockSeen ≤ now →
    f.ofClass s.cfg .login = true →
    exec (.rxLogin f now) s = .next { s with
      fsm := { s.fsm with
        lastRxValid := true, lastRxTime := now, probePending := decide (s.cfg.role = .primary) }
      txm := sentInto s.cfg s.txm { Frame.zero with
        messageType := s.cfg.typeCode.status, messageSource := s.cfg.addrSelf, messageDest := f.messageSource
        loginBit := true, controllerPresent := 1, updateMagic := 0, unknownBit := true, writeBit := false
        onOff := s.cs.onOff, temperature := s.cs.temperature, acMode := s.cs.acMode, fanMode := s.cs.fanMode
        swingMode := s.cs.swingMode, swingStep := s.cs.swingStep, acError := s.cs.acError }
      env := { s.env with clockSeen := now } }

/-- R163: the probe step sends a LOGIN frame to the secondary address and ends the operation. R151: while it is pending no
frame is processed; that the model refuses one, by this name, is its choice (log entry 7). -/
def Obligations.ProbeSendsLoginToTheSecondaryAddress : Prop :=
  ∀ s : State, s.fsm.probePending = true → s.cfg.role = .primary →
    exec .rxLoginProbe s = .next { s with
      fsm := { s.fsm with probePending := false }
      txm := sentInto s.cfg s.txm { Frame.zero with
        messageType := s.cfg.typeCode.login, messageSource := s.cfg.addrSelf
        messageDest := s.cfg.addrSecondary } } ∧
      ∀ (raw : Buf) (now : Nat), exec (.onFrameReceived raw now) s = .refused .frameBeforeProbe

/-- R164, R167: an ERROR or reserved-type frame to this controller updates the liveness pair and nothing else. -/
def Obligations.ErrorAndReservedFramesOnlyRefreshLiveness : Prop :=
  ∀ (f : Frame) (now : Nat) (s : State), s.fsm.probePending = false → s.env.clockSeen ≤ now →
    (f.ofClass s.cfg .error = true → exec (.rxError f now) s = .next { s with
        fsm := { s.fsm with lastRxValid := true, lastRxTime := now }
        env := { s.env with clockSeen := now } }) ∧
      (f.ofClass s.cfg .reserved = true → exec (.rxReserved f now) s = .next { s with
        fsm := { s.fsm with lastRxValid := true, lastRxTime := now }
        env := { s.env with clockSeen := now } })

/-- R165, R166: a frame to the secondary gives its ambient temperature and sets the flag, with no liveness update and no
reply; any other frame not to this controller has no effect. -/
def Obligations.OverheardFramesAreAdoptedAndOthersIgnored : Prop :=
  ∀ (f : Frame) (now : Nat) (s : State), s.fsm.probePending = false → s.env.clockSeen ≤ now →
    (f.ofClass s.cfg .toSecondary = true → exec (.rxToSecondary f now) s = .next { s with
        cs := { s.cs with controllerTemp := f.controllerTemp }
        fsm := { s.fsm with seenSecondary := true }
        env := { s.env with clockSeen := now } }) ∧
      (f.ofClass s.cfg .ignored = true → exec (.rxIgnored f now) s = .next { s with
        env := { s.env with clockSeen := now } })

/-- R151, R230, R238 and I11 say which operations are not enabled; that each is a refusal, the order of the checks and the
guard on the class are the model's choice (log entries 6, 7, 8 and 14). -/
def Obligations.OperationsNotEnabledAreRefusedByName : Prop :=
  (∀ (k : FrameClass) (f : Frame) (now : Nat) (s : State),
      (s.fsm.probePending = true → exec (classInstr k f now) s = .refused .frameBeforeProbe) ∧
        (s.fsm.probePending = false → now < s.env.clockSeen →
          exec (classInstr k f now) s = .refused .clockWentBack) ∧
        (s.fsm.probePending = false → s.env.clockSeen ≤ now → f.ofClass s.cfg k = false →
          exec (classInstr k f now) s = .refused .notOfClass)) ∧
    (∀ (raw : Buf) (now : Nat) (s : State),
      (s.fsm.probePending = true → exec (.onFrameReceived raw now) s = .refused .frameBeforeProbe) ∧
        (s.fsm.probePending = false → now < s.env.clockSeen →
          exec (.onFrameReceived raw now) s = .refused .clockWentBack)) ∧
    (∀ (now : Nat) (s : State), now < s.env.clockSeen → exec (.isBound now) s = .refused .clockWentBack) ∧
    (∀ s : State, s.fsm.probePending = false ∨ s.cfg.role = .secondary →
      exec .rxLoginProbe s = .refused .probeNotEnabled)

/-- R153: exactly the frames addressed to this controller write the liveness pair. -/
def Obligations.LivenessIsWrittenByExactlyTheFramesToSelf : Prop :=
  ∀ (raw : Buf) (now : Nat) (s t : State), exec (.onFrameReceived raw now) s = .next t →
    if addressedToMe s.cfg (receivedFrame s.cfg raw) then t.fsm.lastRxValid = true ∧ t.fsm.lastRxTime = now
    else t.fsm.lastRxValid = s.fsm.lastRxValid ∧ t.fsm.lastRxTime = s.fsm.lastRxTime

/-- R16: over one step other than a reset, the secondary-seen flag is never cleared and is set only by an overheard
frame to the secondary. -/
def Obligations.SecondaryFlagIsSetOnlyByAnOverheardFrame : Prop :=
  ∀ s t : State, NoReset s → step s = .next t →
    (s.fsm.seenSecondary = true → t.fsm.seenSecondary = true) ∧
      (s.fsm.seenSecondary = false → t.fsm.seenSecondary = true →
        ∃ raw now rest, s.env.requests = .rx raw now :: rest ∧
          addressedToSecondary s.cfg (receivedFrame s.cfg raw) = true)

/-- R13: over one step other than a reset, CurrentState is written only by an exchange and, its ambient temperature
alone, by an overheard frame. -/
def Obligations.CurrentStateIsWrittenByFramesOnly : Prop :=
  ∀ s t : State, NoReset s → step s = .next t → t.cs ≠ s.cs →
    ∃ raw now rest, s.env.requests = .rx raw now :: rest ∧
      (classOf s.cfg (receivedFrame s.cfg raw) = .statusExchange ∨
        (classOf s.cfg (receivedFrame s.cfg raw) = .toSecondary ∧
          t.cs = { s.cs with controllerTemp := (receivedFrame s.cfg raw).controllerTemp }))

/-- R235: caller-context operations leave the configuration, CurrentState, the protocol flags, the TX mailbox and the
region's freedom alone. -/
def Obligations.CallerOperationsLeaveTheProtocolState : Prop :=
  ∀ (i : Instr) (s t : State), contextOf i = some .caller → exec i s = .next t →
    t.cfg = s.cfg ∧ t.cs = s.cs ∧ t.fsm = s.fsm ∧ t.txm = s.txm ∧ (s.lock.held = false → t.lock.held = false)

/-- R56, which the spec marks as derived from R51: an exchange sees every setter that completed before it. In three
clauses: a completed exchange leaves in CurrentState the shadow of every field that was dirty at it; so it leaves there
the value of a setter right before it; and over one step other than a reset a staged field stays staged with its shadow,
unless the step is an exchange (which takes the shadow into CurrentState), a later setter of the same field or an
APPLY_STATE that differs from CurrentState in it (which leave it staged with the new value). -/
def Obligations.ExchangeSeesEverySetterBeforeIt : Prop :=
  (∀ (g : UField) (f : Frame) (now : Nat) (s u : State),
      exec (.rxStatusExchange f now) s = .next u → s.pu.dirty.getLsbD (s.cfg.dirtyBit.bit g).val = true →
        u.cs.toSetpoints.get g = s.pu.sh.get g) ∧
    (∀ (g : UField) (v : Byte) (f : Frame) (now : Nat) (s t u : State),
      exec (setterOf v g) s = .next t → exec (.rxStatusExchange f now) t = .next u →
        u.cs.toSetpoints.get g = v) ∧
    ∀ (g : UField) (s t : State), NoReset s → step s = .next t →
      s.pu.dirty.getLsbD (s.cfg.dirtyBit.bit g).val = true →
        (t.pu.dirty.getLsbD (t.cfg.dirtyBit.bit g).val = true ∧ t.pu.sh.get g = s.pu.sh.get g) ∨
          ∃ r rest i, s.env.requests = r :: rest ∧ decode s.cfg r = .ok i ∧
            ((∃ f now, i = .rxStatusExchange f now ∧ t.cs.toSetpoints.get g = s.pu.sh.get g) ∨
              (∃ v, i = setterOf v g ∧ t.pu.dirty.getLsbD (t.cfg.dirtyBit.bit g).val = true ∧ t.pu.sh.get g = v) ∨
              ∃ d, i = .applyState d ∧ d.get g ≠ s.cs.toSetpoints.get g ∧
                t.pu.dirty.getLsbD (t.cfg.dirtyBit.bit g).val = true ∧ t.pu.sh.get g = d.get g)

/-! ### Hazards -/

/-- R260 (a): the primary's login reply is read by every receiver as addressed to the unit's address with bit 5 set. -/
def Obligations.LoginReplyIsReadWithDestinationBitFiveSet : Prop :=
  ∀ (f : Frame) (now : Nat) (a : BitVec 7) (s t : State), s.cfg.wf = true → s.txm.full = false →
    exec (.rxStatusLoginreq f now) s = .next t →
    t.txm.full = true ∧
      (decodeFrame s.cfg.layout a (fromWire t.txm.data)).messageDest = s.cfg.addrUnit ||| 0x20#7

/-- R260 (c): for a frame that is not broadcast the class of a STATUS frame to this controller is fixed by bit 5 of the
own address. -/
def Obligations.ExplicitlyAddressedStatusClassIsFixedByTheOwnAddress : Prop :=
  ∀ (c : Cfg) (p : Buf), p.b0.getLsbD 7 = false →
    let f := decodeFrame c.layout c.addrSelf p
    (c.addrSelf.getLsbD 5 = true → classOf c f ≠ .statusExchange) ∧
      (c.addrSelf.getLsbD 5 = false →
        classOf c f ≠ .statusLoginreq ∧ classOf c f ≠ .statusLoginreqSecondary)

/-- R225, R261: when the TX slot is full the exchange's reply is lost, CurrentState has the merged values already, and
the update survives under AFTER_HANDOFF and NEVER and is gone under ON_MERGE. -/
def Obligations.DroppedReplyLeavesOptimisticCurrentState : Prop :=
  ∀ (f : Frame) (now : Nat) (s t : State), s.txm.full = true → s.pu.dirty ≠ 0 →
    exec (.rxStatusExchange f now) s = .next t →
    t.txm = s.txm ∧
      (∀ g, s.pu.dirty.getLsbD (s.cfg.dirtyBit.bit g).val = true → t.cs.toSetpoints.get g = s.pu.sh.get g) ∧
      (s.cfg.clearPolicy ≠ .onMerge → t.pu = s.pu ∧ t.spm = s.spm) ∧
      (s.cfg.clearPolicy = .onMerge → t.pu = { s.pu with dirty := 0 } ∧ t.spm = { full := true, data := t.cs })

/-- R262: under NEVER a pending update stays pending through every step other than a reset, and no Snapshot is
published. -/
def Obligations.NeverPolicyKeepsUpdatesPendingForEver : Prop :=
  ∀ s t : State, NoReset s → s.cfg.clearPolicy = .never → s.pu.dirty ≠ 0 → step s = .next t →
    t.cfg.clearPolicy = .never ∧ t.pu.dirty ≠ 0 ∧ t.spm.data = s.spm.data ∧
      (t.spm.full = true → s.spm.full = true)

/-- R263: the probe is dropped unless the TX mailbox is taken between the two steps of RX.LOGIN. -/
def Obligations.ProbeIsDroppedUnlessTheSlotIsTaken : Prop :=
  ∀ (f : Frame) (now : Nat) (s t : State), s.cfg.role = .primary → exec (.rxLogin f now) s = .next t →
    (s.txm.full = true → t.txm = s.txm) ∧
      (∃ u, exec .rxLoginProbe t = .next u ∧ u.txm = t.txm ∧ u.fsm.probePending = false) ∧
      (∃ v u, exec .txTake t = .next v ∧ v.out.rspPresent = true ∧ exec .rxLoginProbe v = .next u ∧
        u.fsm.probePending = false ∧
        u.txm = { full := true, data := toWire (encodeFrame s.cfg.layout { Frame.zero with
          messageType := s.cfg.typeCode.login, messageSource := s.cfg.addrSelf
          messageDest := s.cfg.addrSecondary }) })

/-! ### The machine -/

/-- A step runs the decoded operation: the request is taken from the list (the model's own, log entry 4) and the
operation run on what remains. -/
def Obligations.StepRunsTheDecodedOperation : Prop :=
  ∀ (s : State) (r : Request) (rest : List Request) (i : Instr), s.cfg.wf = true →
    s.env.requests = r :: rest → decode s.cfg r = .ok i →
    step s = exec i { s with env := { s.env with requests := rest } }

/-- R230, R239: with nothing presented the block keeps all its state. -/
def Obligations.IdleBlockKeepsAllItsState : Prop :=
  ∀ s : State, s.env.requests = [] → step s = .next s

/-- R23, R250: reset is taken from any state and gives every state field the value of R23, the straps being sampled. Of
the model's own outputs and environment (log entries 11 and 12) it says nothing. -/
def Obligations.ResetGivesEveryFieldItsResetValue : Prop :=
  ∀ (s : State) (c : Cfg) (rest : List Request), s.env.requests = .reset c :: rest →
    ∃ (o : Outputs) (e : Env), step s = .next
      { cfg := c
        cs := ⟨⟨0, 0, 0, 0, 0, 0, 0⟩, 0, 0⟩
        pu := { dirty := 0, sh := ⟨0, 0, 0, 0, 0, 0, 0⟩ }
        fsm := { seenSecondary := false, lastRxValid := false, lastRxTime := 0, probePending := false }
        txm := { full := false, data := ⟨0, 0, 0, 0, 0, 0, 0, 0⟩ }
        spm := { full := false, data := ⟨⟨0, 0, 0, 0, 0, 0, 0⟩, 0, 0⟩ }
        lock := { held := false }
        out := o
        env := e }

/-- R1: no operation writes a parameter, and over one step other than a reset the configuration is constant. -/
def Obligations.ConfigurationIsConstantUntilReset : Prop :=
  (∀ (i : Instr) (s t : State), exec i s = .next t → t.cfg = s.cfg) ∧
    ∀ s t : State, NoReset s → step s = .next t → t.cfg = s.cfg

/-- R220, R230: in a configuration that meets R2, a step answers a next state exactly for the enabled requests: no
operation stops the block. What `enabled` leaves out, and that it is refused, rests on the model's choices: a clock that
goes back (log entry 6), a frame while a probe is pending (7), a probe that is not enabled (8). Which word is IS_BOUND
under another `LAYOUT` (9), and that a reset (12) and a reserved selector (5) go on, are the model's choices too. -/
def Obligations.StepGoesOnExactlyForEnabledRequests : Prop :=
  ∀ (s : State) (r : Request) (rest : List Request), s.cfg.wf = true → s.env.requests = r :: rest →
    ((∃ t, step s = .next t) ↔ enabled s r = true)

/-- R2, I10: `step` itself refuses nothing but a configuration that breaks R2; that it looks at each request is the model's
choice (log entry 21). Every other request than a reset decodes, and its operation runs. -/
def Obligations.StepRefusesOnlyBadConfigurations : Prop :=
  ∀ (s : State) (r : Request) (rest : List Request), s.env.requests = r :: rest → (∀ c, r ≠ .reset c) →
    (s.cfg.wf = false → step s = .refused .badConfig) ∧
      (s.cfg.wf = true → ∃ i, decode s.cfg r = .ok i ∧
        step s = exec i { s with env := { s.env with requests := rest } })

/-- The invariant of the block: every step from a good state leads to a good state. -/
def Obligations.EveryStepKeepsTheStateGood : Prop :=
  ∀ s t : State, Good s → step s = .next t → Good t

/-- The state after reset is good, under every configuration that meets R2; `State.reset` has the default straps of log
entry 2. -/
def Obligations.ResetStateIsGood : Prop :=
  Good State.reset ∧ ∀ (c : Cfg) (n : Nat), c.wf = true → Good (State.resetWith c { requests := [], clockSeen := n })

/-! ### Decoding and encoding operations -/

/-- Decode and encode agree on every well-formed operation that a request can ask for: every RX class, every host
command, the probe and the codec ports. ON_FRAME_RECEIVED shares its words with the classes (R150). -/
def Obligations.DecodingAnEncodedOperationGivesItBack : Prop :=
  ∀ (c : Cfg) (i : Instr) (r : Request), c.wf = true → i.wf c = true → encode c i = some r →
    (∀ raw now, i ≠ .onFrameReceived raw now) → decode c r = .ok i

/-- What the decoder gives is well formed. -/
def Obligations.DecodedOperationsAreWellFormed : Prop :=
  ∀ (c : Cfg) (r : Request) (i : Instr), c.wf = true → decode c r = .ok i → i.wf c = true

/-- R73: whatever stands at a port decodes: every 8 bytes at the receive port (R92, R150), every word at the host command
port (R75, R77), every frame at `enc_in` (R95, R97: ENCODE masks a value wider than its field), the other codec inputs
and the probe. Only a reset, an event that stands at no port (R250), is no operation (log entry 12). Of the carrier of a
command word the decoder reads the port's wires alone, `opsel` above `arg`; how many they are under a `LAYOUT` other than
the default is the model's choice (log entry 9). -/
def Obligations.DecoderRejectsOnlyWhatCannotStandAtAPort : Prop :=
  (∀ (c : Cfg) (r : Request), (∀ straps, r ≠ .reset straps) → ∃ i, decode c r = .ok i) ∧
    (∀ c straps : Cfg, decode c (.reset straps) = .error (.resetEvent straps)) ∧
    (∀ (c : Cfg) (f : Frame), decode c (.encIn f) = .ok (.encode f)) ∧
    ∀ (c : Cfg) (cmd cmd' : Word) (now : Nat),
      cmd.toNat % 2 ^ (5 + argWidth c.layout) = cmd'.toNat % 2 ^ (5 + argWidth c.layout) →
        decode c (.host cmd now) = decode c (.host cmd' now)

/-- R74, R76: the host command word under the default `LAYOUT`: selector in bits 21:17, argument in bits 16:0. -/
def Obligations.HostCommandWordSelectsTheCommand : Prop :=
  ∀ (c : Cfg) (arg now : Nat), c.layout = Layout.default → arg < 2 ^ 17 →
    let d := fun op => decode c (.host (BitVec.ofNat 64 (op * 2 ^ 17 + arg)) now)
    d 0x00 = .ok .reservedOpsel00 ∧
      d 0x01 = .ok (.setOnoff (BitVec.ofNat 8 (arg % 2))) ∧
      d 0x02 = .ok (.setTemp (BitVec.ofNat 8 (arg % 128))) ∧
      d 0x03 = .ok (.setMode (BitVec.ofNat 8 (arg % 8))) ∧
      d 0x04 = .ok (.setFanmode (BitVec.ofNat 8 (arg % 8))) ∧
      d 0x05 = .ok (.setEconomy (BitVec.ofNat 8 (arg % 2))) ∧
      d 0x06 = .ok (.setSwingmode (BitVec.ofNat 8 (arg % 2))) ∧
      d 0x07 = .ok (.setSwingstep (BitVec.ofNat 8 (arg % 2))) ∧
      d 0x08 = .ok (.applyState
        { onOff := BitVec.ofNat 8 (arg % 2)
          temperature := BitVec.ofNat 8 (arg / 2 % 128)
          acMode := BitVec.ofNat 8 (arg / 2 ^ 8 % 8)
          fanMode := BitVec.ofNat 8 (arg / 2 ^ 11 % 8)
          economyMode := BitVec.ofNat 8 (arg / 2 ^ 14 % 2)
          swingMode := BitVec.ofNat 8 (arg / 2 ^ 15 % 2)
          swingStep := BitVec.ofNat 8 (arg / 2 ^ 16 % 2) }) ∧
      d 0x09 = .ok .getOnoff ∧ d 0x0A = .ok .getTemp ∧ d 0x0B = .ok .getMode ∧ d 0x0C = .ok .getFanmode ∧
      d 0x0D = .ok .getEconomy ∧ d 0x0E = .ok .getSwingmode ∧ d 0x0F = .ok .getSwingstep ∧
      d 0x10 = .ok .getControllertemp ∧ d 0x11 = .ok (.isBound now) ∧ d 0x12 = .ok .updatePending ∧
      d 0x13 = .ok .getUpdateFields ∧ d 0x14 = .ok .stateTake ∧ d 0x15 = .ok .txTake ∧
      d 0x16 = .ok .reservedOpsel16 ∧ d 0x17 = .ok .reservedOpsel17 ∧ d 0x18 = .ok .reservedOpsel18 ∧
      d 0x19 = .ok .reservedOpsel19 ∧ d 0x1A = .ok .reservedOpsel1A ∧ d 0x1B = .ok .reservedOpsel1B ∧
      d 0x1C = .ok .reservedOpsel1C ∧ d 0x1D = .ok .reservedOpsel1D ∧ d 0x1E = .ok .reservedOpsel1E ∧
      d 0x1F = .ok .reservedOpsel1F

/-- Words of 95_test_vectors.md decode to the operations they stand for (V-HOST-3, V-HOST-9, V-HOST-16, V-FSM-8,
V-FSM-16). -/
def Obligations.SampleWordsDecodeToTheirOperations : Prop :=
  decode cfgB (.host 0x040018 0) = .ok (.setTemp 24) ∧
    decode cfgB (.host 0x10032D 0) = .ok (.applyState ⟨1, 22, 3, 0, 0, 0, 0⟩) ∧
    decode cfgB (.host 0x03FFFE 0) = .ok (.setOnoff 0) ∧
    decode cfgB (.rx ⟨0xFE, 0xFD, 0xEF, 0xE8, 0xE9, 0xFF, 0xFF, 0xFF⟩ 1200) =
      .ok (.rxStatusExchange { Frame.zero with
        messageSource := 1, messageDest := 2, messageType := 1
        onOff := 1, temperature := 22, acMode := 3, fanMode := 1 } 1200) ∧
    decode cfgB (.rx ⟨0xFE, 0xFD, 0xCF, 0x7F, 0xFF, 0xFF, 0xFF, 0xFF⟩ 500) =
      .ok (.rxError { Frame.zero with messageSource := 1, messageDest := 2, messageType := 3, acError := 1 } 500)
end

