-- ==== Sys2Proof/Laws/Codec.lean ====
section
/-! SUPPORT. The small laws of bit fields and buffers: extraction stays within the field's width, a row that meets R2
reads back what was inserted through it and leaves the bits of a disjoint row, the line coding is an involution. -/

namespace Sys2Proof

/-! ### Buffers -/

@[simp] theorem Buf.get_set_self (b : Buf) (i : Fin 8) (v : Byte) : (b.set i v).get i = v := by
  revert i; simp [Fin.forall_fin_succ, Buf.get, Buf.set]

theorem Buf.get_set_ne (b : Buf) {i j : Fin 8} (h : j ≠ i) (v : Byte) : (b.set i v).get j = b.get j := by
  revert h; revert i j; simp [Fin.forall_fin_succ, Buf.get, Buf.set]

@[simp] theorem fromWire_toWire (b : Buf) : fromWire (toWire b) = b := by
  cases b; simp [fromWire, toWire, Buf.map]

@[simp] theorem toWire_fromWire (b : Buf) : toWire (fromWire b) = b := by
  cases b; simp [fromWire, toWire, Buf.map]

/-! ### Rows of the field table -/

/-- What R2 asks of one row. -/
theorem Slot.wf_iff (p : Slot) :
    p.wf = true ↔ 3 ≤ p.index.val ∧ p.shift < 8 ∧ p.mask ≠ 0 ∧
      p.mask.toNat = (2 ^ p.width - 1) * 2 ^ p.shift := by
  simp [Slot.wf, and_assoc]

/-- A field is one to eight bits wide. -/
theorem popcount_le (m : Byte) : popcount m ≤ 8 := by
  unfold popcount
  exact le_trans List.countP_le_length (by simp)

/-- What is extracted through a row that meets R2 has the row's width. -/
theorem extract_fits {p : Slot} (h : p.wf = true) (b : Buf) : fitsIn (extract p b) p.width = true := by
  obtain ⟨-, -, -, hm⟩ := p.wf_iff.1 h
  have hpos : 0 < 2 ^ p.width := Nat.two_pow_pos _
  have hle : (b.get p.index &&& p.mask).toNat ≤ p.mask.toNat := by
    rw [BitVec.toNat_and]; exact Nat.and_le_right
  simp only [fitsIn, extract, decide_eq_true_eq, BitVec.toNat_ushiftRight, Nat.shiftRight_eq_div_pow]
  rw [Nat.div_lt_iff_lt_mul (Nat.two_pow_pos _)]
  calc (b.get p.index &&& p.mask).toNat ≤ (2 ^ p.width - 1) * 2 ^ p.shift := hm ▸ hle
    _ < 2 ^ p.width * 2 ^ p.shift := (Nat.mul_lt_mul_right (Nat.two_pow_pos _)).2 (by omega)

/-- A row that meets R2 has its bits from `shift` up, as many as its width. -/
theorem Slot.mask_bit {p : Slot} (h : p.wf = true) (k : Nat) :
    p.mask.getLsbD k = decide (p.shift ≤ k ∧ k < p.shift + p.width) := by
  obtain ⟨-, -, -, hm⟩ := p.wf_iff.1 h
  rw [BitVec.getLsbD, hm, Nat.testBit_mul_two_pow, Nat.testBit_two_pow_sub_one]
  by_cases h1 : p.shift ≤ k
  · simp [h1]; omega
  · simp [h1]

/-- The bits of what is extracted. -/
theorem extract_bit {p : Slot} (h : p.wf = true) (b : Buf) (k : Nat) :
    (extract p b).getLsbD k = (decide (k < p.width) && (b.get p.index).getLsbD (p.shift + k)) := by
  simp only [extract, BitVec.getLsbD_ushiftRight, BitVec.getLsbD_and, p.mask_bit h]
  by_cases hk : k < p.width <;> simp [hk, Bool.and_comm]

/-- A field value that fits has no bit from its width up. -/
theorem fitsIn_bit {v : Byte} {w : Nat} (h : fitsIn v w = true) {k : Nat} (hk : w ≤ k) : v.getLsbD k = false := by
  have hv : v.toNat < 2 ^ w := by simpa [fitsIn] using h
  exact Nat.testBit_lt_two_pow (lt_of_lt_of_le hv (Nat.pow_le_pow_right (by omega) hk))

/-- The bits of a value inserted into a clear field. -/
theorem insertField_bit {p : Slot} (h : p.wf = true) (v : Byte) (b : Buf) (k : Nat) :
    ((insertField p v b).get p.index).getLsbD k =
      ((b.get p.index).getLsbD k ||
        (decide (k < 8) && decide (p.shift ≤ k ∧ k < p.shift + p.width) && v.getLsbD (k - p.shift))) := by
  simp only [insertField, Buf.get_set_self, BitVec.getLsbD_or, BitVec.getLsbD_and, BitVec.getLsbD_shiftLeft, p.mask_bit h]
  by_cases h1 : p.shift ≤ k
  · have : ¬ k < p.shift := by omega
    by_cases h2 : k < p.shift + p.width <;> by_cases h3 : k < 8 <;> simp [h1, h2, h3, this]
  · have : k < p.shift := by omega
    simp [h1, this]

/-- Insertion leaves every other byte. -/
theorem insertField_get_ne {p : Slot} (v : Byte) (b : Buf) {j : Fin 8} (h : j ≠ p.index) :
    (insertField p v b).get j = b.get j := Buf.get_set_ne b h _

/-- Insertion leaves what another row reads, where the two share no bit (00_scope.md R2). -/
theorem extract_insertField_apart {p q : Slot} (hpq : p.apart q = true) (v : Byte) (b : Buf) :
    extract p (insertField q v b) = extract p b := by
  by_cases hi : p.index = q.index
  · have hm : p.mask &&& q.mask = 0 := by simpa [Slot.apart, hi] using hpq
    have : ∀ x y : Byte, (x ||| (y &&& q.mask)) &&& p.mask = x &&& p.mask := by
      intro x y
      ext k hk
      have hk' : (p.mask &&& q.mask).getLsbD k = false := by rw [hm]; simp
      simp only [BitVec.getLsbD_and] at hk'
      simp only [← BitVec.getLsbD_eq_getElem, BitVec.getLsbD_and, BitVec.getLsbD_or]
      cases h1 : p.mask.getLsbD k <;> cases h2 : q.mask.getLsbD k <;> simp_all
    unfold extract insertField
    rw [hi, Buf.get_set_self, this]
  · unfold extract
    rw [insertField_get_ne v b hi]

/-- A row reads back what was inserted through it over a clear field. -/
theorem extract_insertField_self {p : Slot} (h : p.wf = true) {v : Byte} (hv : fitsIn v p.width = true) {b : Buf}
    (hb : extract p b = 0) : extract p (insertField p v b) = v := by
  obtain ⟨-, hs, -, -⟩ := p.wf_iff.1 h
  apply BitVec.eq_of_getLsbD_eq
  intro k hk
  have hz : (extract p b).getLsbD k = false := by rw [hb]; simp
  rw [extract_bit h] at hz ⊢
  rw [insertField_bit h]
  by_cases hkw : k < p.width
  · have h8 : p.shift + k < 8 := by
      by_contra hc
      have : p.mask.getLsbD (p.shift + k) = true := by rw [p.mask_bit h]; simp [hkw]
      rw [BitVec.getLsbD_of_ge _ _ (by omega)] at this
      simp at this
    simp_all
  · have hbit : v.getLsbD k = false := fitsIn_bit hv (Nat.le_of_not_lt hkw)
    simp [hkw, hbit]

/-! ### Packed fields -/

/-- A slice of `w ≤ 8` bits fits `w` bits. -/
theorem sliceAt_fits (x off w : Nat) : fitsIn (sliceAt x off w) w = true := by
  simp only [fitsIn, sliceAt, decide_eq_true_eq, BitVec.toNat_ofNat]
  exact lt_of_le_of_lt (Nat.mod_le _ _) (Nat.mod_lt _ (Nat.two_pow_pos _))

/-- Fields packed from bit 0 up need no more bits than their widths together. -/
theorem packFields_lt (fs : List (Nat × Byte)) : packFields fs < 2 ^ (fs.map Prod.fst).sum := by
  induction fs with
  | nil => simp [packFields]
  | cons q rest ih =>
    obtain ⟨w, v⟩ := q
    simp only [packFields, List.map_cons, List.sum_cons, Nat.pow_add]
    have h1 : v.toNat % 2 ^ w < 2 ^ w := Nat.mod_lt _ (Nat.two_pow_pos _)
    calc v.toNat % 2 ^ w + 2 ^ w * packFields rest
        < 2 ^ w + 2 ^ w * packFields rest := by omega
      _ = 2 ^ w * (packFields rest + 1) := by ring
      _ ≤ 2 ^ w * 2 ^ (rest.map Prod.fst).sum := Nat.mul_le_mul_left _ ih

/-! ### What R2 gives of a configuration -/

/-- Every row of a layout that meets R2 meets it. -/
theorem Layout.slot_wf {l : Layout} (h : l.wf = true) {p : Slot} (hp : p ∈ l.slots) : p.wf = true := by
  simp only [Layout.wf, Bool.and_eq_true, List.all_eq_true] at h
  exact h.1.1 p hp

/-- The layout of a configuration that meets R2 meets it. -/
theorem Cfg.layout_wf {c : Cfg} (h : c.wf = true) : c.layout.wf = true := by
  simp only [Cfg.wf, Bool.and_eq_true] at h; exact h.1.1.2

/-- The type codes of a configuration that meets R2 meet it. -/
theorem Cfg.typeCode_wf {c : Cfg} (h : c.wf = true) : c.typeCode.wf = true := by
  simp only [Cfg.wf, Bool.and_eq_true] at h; exact h.1.1.1.2

/-- The dirty bits of a configuration that meets R2 are injective. -/
theorem Cfg.dirtyBit_wf {c : Cfg} (h : c.wf = true) : c.dirtyBit.wf = true := by
  simp only [Cfg.wf, Bool.and_eq_true] at h; exact h.1.2

/-! ### Decoded frames -/

/-- Every decoded frame has fields of their widths (40_frame_codec.md R97). -/
theorem decodeFrame_fits {l : Layout} (h : l.wf = true) (a : BitVec 7) (b : Buf) :
    (decodeFrame l a b).fits l = true := by
  have hw : ∀ p ∈ l.slots, fitsIn (extract p b) p.width = true := fun p hp => extract_fits (Layout.slot_wf h hp) b
  simp only [Layout.slots, List.forall_mem_cons] at hw
  obtain ⟨h1, h2, h3, h4, h5, h6, h7, h8, h9, h10, h11, -⟩ := hw
  simp [Frame.fits, Setpoints.fits, decodeFrame, decodeState, h1, h2, h3, h4, h5, h6, h7, h8, h9, h10, h11]

/-- Every decoded frame meets (RT1): the two fields of the shared wire bit agree (30_encoding.md R65). -/
theorem decodeFrame_rt1 (l : Layout) (a : BitVec 7) (b : Buf) : (decodeFrame l a b).rt1 = true := by
  simp only [Frame.rt1, decodeFrame, decodeState, decodeHeader]
  cases b.b0.getLsbD 7 <;> simp

/-- Every decoded frame meets (RT2): a broadcast frame has the own address (30_encoding.md R69). -/
theorem decodeFrame_rt2 (l : Layout) (a : BitVec 7) (b : Buf) : (decodeFrame l a b).rt2 a = true := by
  simp only [Frame.rt2, decodeFrame, decodeState, decodeHeader]
  cases b.b0.getLsbD 7 <;> simp

/-- Every decoded frame is one a class may be handed. -/
theorem decodeFrame_inbound {c : Cfg} (h : c.wf = true) (b : Buf) :
    (decodeFrame c.layout c.addrSelf b).inbound c = true := by
  simp [Frame.inbound, decodeFrame_fits (Cfg.layout_wf h), decodeFrame_rt1, decodeFrame_rt2]

/-- Every received frame is of its own class. -/
theorem receivedFrame_ofClass {c : Cfg} (h : c.wf = true) (raw : Buf) :
    (receivedFrame c raw).ofClass c (classOf c (receivedFrame c raw)) = true := by
  simp [Frame.ofClass, receivedFrame, decodeFrame_inbound h]

end Sys2Proof
end

