-- ==== Sys2Proof/Laws/State.lean ====
section
/-! SUPPORT. One lemma per field per update of State, each true by rfl, so that no later proof unfolds a record update. -/

namespace Sys2Proof.Machine

variable (s : State)

@[simp] theorem State.withRequests_env_requests (rs : List Request) : (s.withRequests rs).env.requests = rs := rfl
@[simp] theorem State.withRequests_env_clockSeen (rs : List Request) : (s.withRequests rs).env.clockSeen = s.env.clockSeen := rfl
@[simp] theorem State.withRequests_cfg (rs : List Request) : (s.withRequests rs).cfg = s.cfg := rfl
@[simp] theorem State.withRequests_cs (rs : List Request) : (s.withRequests rs).cs = s.cs := rfl
@[simp] theorem State.withRequests_pu (rs : List Request) : (s.withRequests rs).pu = s.pu := rfl
@[simp] theorem State.withRequests_fsm (rs : List Request) : (s.withRequests rs).fsm = s.fsm := rfl
@[simp] theorem State.withRequests_txm (rs : List Request) : (s.withRequests rs).txm = s.txm := rfl
@[simp] theorem State.withRequests_spm (rs : List Request) : (s.withRequests rs).spm = s.spm := rfl
@[simp] theorem State.withRequests_lock (rs : List Request) : (s.withRequests rs).lock = s.lock := rfl
@[simp] theorem State.withRequests_out (rs : List Request) : (s.withRequests rs).out = s.out := rfl

@[simp] theorem State.sampleClock_env_clockSeen (now : Nat) : (s.sampleClock now).env.clockSeen = now := rfl
@[simp] theorem State.sampleClock_env_requests (now : Nat) : (s.sampleClock now).env.requests = s.env.requests := rfl
@[simp] theorem State.sampleClock_cfg (now : Nat) : (s.sampleClock now).cfg = s.cfg := rfl
@[simp] theorem State.sampleClock_cs (now : Nat) : (s.sampleClock now).cs = s.cs := rfl
@[simp] theorem State.sampleClock_pu (now : Nat) : (s.sampleClock now).pu = s.pu := rfl
@[simp] theorem State.sampleClock_fsm (now : Nat) : (s.sampleClock now).fsm = s.fsm := rfl
@[simp] theorem State.sampleClock_txm (now : Nat) : (s.sampleClock now).txm = s.txm := rfl
@[simp] theorem State.sampleClock_spm (now : Nat) : (s.sampleClock now).spm = s.spm := rfl
@[simp] theorem State.sampleClock_lock (now : Nat) : (s.sampleClock now).lock = s.lock := rfl
@[simp] theorem State.sampleClock_out (now : Nat) : (s.sampleClock now).out = s.out := rfl

@[simp] theorem State.respond_out (p : Bool) (d : Word) : (s.respond p d).out = { s.out with rspPresent := p, rspData := d } := rfl
@[simp] theorem State.respond_cfg (p : Bool) (d : Word) : (s.respond p d).cfg = s.cfg := rfl
@[simp] theorem State.respond_cs (p : Bool) (d : Word) : (s.respond p d).cs = s.cs := rfl
@[simp] theorem State.respond_pu (p : Bool) (d : Word) : (s.respond p d).pu = s.pu := rfl
@[simp] theorem State.respond_fsm (p : Bool) (d : Word) : (s.respond p d).fsm = s.fsm := rfl
@[simp] theorem State.respond_txm (p : Bool) (d : Word) : (s.respond p d).txm = s.txm := rfl
@[simp] theorem State.respond_spm (p : Bool) (d : Word) : (s.respond p d).spm = s.spm := rfl
@[simp] theorem State.respond_lock (p : Bool) (d : Word) : (s.respond p d).lock = s.lock := rfl
@[simp] theorem State.respond_env (p : Bool) (d : Word) : (s.respond p d).env = s.env := rfl

@[simp] theorem State.returnBit_out (b : Bool) : (s.returnBit b).out = { s.out with retBit := b } := rfl
@[simp] theorem State.returnBit_cfg (b : Bool) : (s.returnBit b).cfg = s.cfg := rfl
@[simp] theorem State.returnBit_cs (b : Bool) : (s.returnBit b).cs = s.cs := rfl
@[simp] theorem State.returnBit_pu (b : Bool) : (s.returnBit b).pu = s.pu := rfl
@[simp] theorem State.returnBit_fsm (b : Bool) : (s.returnBit b).fsm = s.fsm := rfl
@[simp] theorem State.returnBit_txm (b : Bool) : (s.returnBit b).txm = s.txm := rfl
@[simp] theorem State.returnBit_spm (b : Bool) : (s.returnBit b).spm = s.spm := rfl
@[simp] theorem State.returnBit_lock (b : Bool) : (s.returnBit b).lock = s.lock := rfl
@[simp] theorem State.returnBit_env (b : Bool) : (s.returnBit b).env = s.env := rfl

@[simp] theorem State.returnFrame_out (r : Frame) (a : Bool) : (s.returnFrame r a).out = { s.out with retBit := a, retFrame := r } := rfl
@[simp] theorem State.returnFrame_cfg (r : Frame) (a : Bool) : (s.returnFrame r a).cfg = s.cfg := rfl
@[simp] theorem State.returnFrame_cs (r : Frame) (a : Bool) : (s.returnFrame r a).cs = s.cs := rfl
@[simp] theorem State.returnFrame_pu (r : Frame) (a : Bool) : (s.returnFrame r a).pu = s.pu := rfl
@[simp] theorem State.returnFrame_fsm (r : Frame) (a : Bool) : (s.returnFrame r a).fsm = s.fsm := rfl
@[simp] theorem State.returnFrame_txm (r : Frame) (a : Bool) : (s.returnFrame r a).txm = s.txm := rfl
@[simp] theorem State.returnFrame_spm (r : Frame) (a : Bool) : (s.returnFrame r a).spm = s.spm := rfl
@[simp] theorem State.returnFrame_lock (r : Frame) (a : Bool) : (s.returnFrame r a).lock = s.lock := rfl
@[simp] theorem State.returnFrame_env (r : Frame) (a : Bool) : (s.returnFrame r a).env = s.env := rfl

@[simp] theorem State.showDecoded_out (f : Frame) : (s.showDecoded f).out = { s.out with decOut := f } := rfl
@[simp] theorem State.showDecoded_cfg (f : Frame) : (s.showDecoded f).cfg = s.cfg := rfl
@[simp] theorem State.showDecoded_cs (f : Frame) : (s.showDecoded f).cs = s.cs := rfl
@[simp] theorem State.showDecoded_pu (f : Frame) : (s.showDecoded f).pu = s.pu := rfl
@[simp] theorem State.showDecoded_fsm (f : Frame) : (s.showDecoded f).fsm = s.fsm := rfl
@[simp] theorem State.showDecoded_txm (f : Frame) : (s.showDecoded f).txm = s.txm := rfl
@[simp] theorem State.showDecoded_spm (f : Frame) : (s.showDecoded f).spm = s.spm := rfl
@[simp] theorem State.showDecoded_lock (f : Frame) : (s.showDecoded f).lock = s.lock := rfl
@[simp] theorem State.showDecoded_env (f : Frame) : (s.showDecoded f).env = s.env := rfl

@[simp] theorem State.showEncoded_out (b : Buf) : (s.showEncoded b).out = { s.out with encOut := b } := rfl
@[simp] theorem State.showEncoded_cfg (b : Buf) : (s.showEncoded b).cfg = s.cfg := rfl
@[simp] theorem State.showEncoded_cs (b : Buf) : (s.showEncoded b).cs = s.cs := rfl
@[simp] theorem State.showEncoded_pu (b : Buf) : (s.showEncoded b).pu = s.pu := rfl
@[simp] theorem State.showEncoded_fsm (b : Buf) : (s.showEncoded b).fsm = s.fsm := rfl
@[simp] theorem State.showEncoded_txm (b : Buf) : (s.showEncoded b).txm = s.txm := rfl
@[simp] theorem State.showEncoded_spm (b : Buf) : (s.showEncoded b).spm = s.spm := rfl
@[simp] theorem State.showEncoded_lock (b : Buf) : (s.showEncoded b).lock = s.lock := rfl
@[simp] theorem State.showEncoded_env (b : Buf) : (s.showEncoded b).env = s.env := rfl

@[simp] theorem State.showLineCoded_out (b : Buf) : (s.showLineCoded b).out = { s.out with lcOut := b } := rfl
@[simp] theorem State.showLineCoded_cfg (b : Buf) : (s.showLineCoded b).cfg = s.cfg := rfl
@[simp] theorem State.showLineCoded_cs (b : Buf) : (s.showLineCoded b).cs = s.cs := rfl
@[simp] theorem State.showLineCoded_pu (b : Buf) : (s.showLineCoded b).pu = s.pu := rfl
@[simp] theorem State.showLineCoded_fsm (b : Buf) : (s.showLineCoded b).fsm = s.fsm := rfl
@[simp] theorem State.showLineCoded_txm (b : Buf) : (s.showLineCoded b).txm = s.txm := rfl
@[simp] theorem State.showLineCoded_spm (b : Buf) : (s.showLineCoded b).spm = s.spm := rfl
@[simp] theorem State.showLineCoded_lock (b : Buf) : (s.showLineCoded b).lock = s.lock := rfl
@[simp] theorem State.showLineCoded_env (b : Buf) : (s.showLineCoded b).env = s.env := rfl

@[simp] theorem State.enterRegion_lock : (s.enterRegion).lock = { held := true } := rfl
@[simp] theorem State.enterRegion_cfg : (s.enterRegion).cfg = s.cfg := rfl
@[simp] theorem State.enterRegion_cs : (s.enterRegion).cs = s.cs := rfl
@[simp] theorem State.enterRegion_pu : (s.enterRegion).pu = s.pu := rfl
@[simp] theorem State.enterRegion_fsm : (s.enterRegion).fsm = s.fsm := rfl
@[simp] theorem State.enterRegion_txm : (s.enterRegion).txm = s.txm := rfl
@[simp] theorem State.enterRegion_spm : (s.enterRegion).spm = s.spm := rfl
@[simp] theorem State.enterRegion_out : (s.enterRegion).out = s.out := rfl
@[simp] theorem State.enterRegion_env : (s.enterRegion).env = s.env := rfl

@[simp] theorem State.leaveRegion_lock : (s.leaveRegion).lock = { held := false } := rfl
@[simp] theorem State.leaveRegion_cfg : (s.leaveRegion).cfg = s.cfg := rfl
@[simp] theorem State.leaveRegion_cs : (s.leaveRegion).cs = s.cs := rfl
@[simp] theorem State.leaveRegion_pu : (s.leaveRegion).pu = s.pu := rfl
@[simp] theorem State.leaveRegion_fsm : (s.leaveRegion).fsm = s.fsm := rfl
@[simp] theorem State.leaveRegion_txm : (s.leaveRegion).txm = s.txm := rfl
@[simp] theorem State.leaveRegion_spm : (s.leaveRegion).spm = s.spm := rfl
@[simp] theorem State.leaveRegion_out : (s.leaveRegion).out = s.out := rfl
@[simp] theorem State.leaveRegion_env : (s.leaveRegion).env = s.env := rfl

@[simp] theorem State.stage_pu_dirty (g : UField) (v : Byte) : (s.stage g v).pu.dirty = markDirty s.cfg.dirtyBit g s.pu.dirty := rfl
@[simp] theorem State.stage_pu_sh (g : UField) (v : Byte) : (s.stage g v).pu.sh = s.pu.sh.set v g := rfl
@[simp] theorem State.stage_cfg (g : UField) (v : Byte) : (s.stage g v).cfg = s.cfg := rfl
@[simp] theorem State.stage_cs (g : UField) (v : Byte) : (s.stage g v).cs = s.cs := rfl
@[simp] theorem State.stage_fsm (g : UField) (v : Byte) : (s.stage g v).fsm = s.fsm := rfl
@[simp] theorem State.stage_txm (g : UField) (v : Byte) : (s.stage g v).txm = s.txm := rfl
@[simp] theorem State.stage_spm (g : UField) (v : Byte) : (s.stage g v).spm = s.spm := rfl
@[simp] theorem State.stage_lock (g : UField) (v : Byte) : (s.stage g v).lock = s.lock := rfl
@[simp] theorem State.stage_out (g : UField) (v : Byte) : (s.stage g v).out = s.out := rfl
@[simp] theorem State.stage_env (g : UField) (v : Byte) : (s.stage g v).env = s.env := rfl

@[simp] theorem State.clearDirty_pu_dirty (sent : Bool) : (s.clearDirty sent).pu.dirty = clearedMask s.cfg.clearPolicy sent s.pu.dirty := rfl
@[simp] theorem State.clearDirty_pu_sh (sent : Bool) : (s.clearDirty sent).pu.sh = s.pu.sh := rfl
@[simp] theorem State.clearDirty_cfg (sent : Bool) : (s.clearDirty sent).cfg = s.cfg := rfl
@[simp] theorem State.clearDirty_cs (sent : Bool) : (s.clearDirty sent).cs = s.cs := rfl
@[simp] theorem State.clearDirty_fsm (sent : Bool) : (s.clearDirty sent).fsm = s.fsm := rfl
@[simp] theorem State.clearDirty_txm (sent : Bool) : (s.clearDirty sent).txm = s.txm := rfl
@[simp] theorem State.clearDirty_spm (sent : Bool) : (s.clearDirty sent).spm = s.spm := rfl
@[simp] theorem State.clearDirty_lock (sent : Bool) : (s.clearDirty sent).lock = s.lock := rfl
@[simp] theorem State.clearDirty_out (sent : Bool) : (s.clearDirty sent).out = s.out := rfl
@[simp] theorem State.clearDirty_env (sent : Bool) : (s.clearDirty sent).env = s.env := rfl

@[simp] theorem State.emptyTx_txm : (s.emptyTx).txm = { full := false, data := s.txm.data } := rfl
@[simp] theorem State.emptyTx_cfg : (s.emptyTx).cfg = s.cfg := rfl
@[simp] theorem State.emptyTx_cs : (s.emptyTx).cs = s.cs := rfl
@[simp] theorem State.emptyTx_pu : (s.emptyTx).pu = s.pu := rfl
@[simp] theorem State.emptyTx_fsm : (s.emptyTx).fsm = s.fsm := rfl
@[simp] theorem State.emptyTx_spm : (s.emptyTx).spm = s.spm := rfl
@[simp] theorem State.emptyTx_lock : (s.emptyTx).lock = s.lock := rfl
@[simp] theorem State.emptyTx_out : (s.emptyTx).out = s.out := rfl
@[simp] theorem State.emptyTx_env : (s.emptyTx).env = s.env := rfl

@[simp] theorem State.publish_spm (p : Snapshot) : (s.publish p).spm = { full := true, data := p } := rfl
@[simp] theorem State.publish_cfg (p : Snapshot) : (s.publish p).cfg = s.cfg := rfl
@[simp] theorem State.publish_cs (p : Snapshot) : (s.publish p).cs = s.cs := rfl
@[simp] theorem State.publish_pu (p : Snapshot) : (s.publish p).pu = s.pu := rfl
@[simp] theorem State.publish_fsm (p : Snapshot) : (s.publish p).fsm = s.fsm := rfl
@[simp] theorem State.publish_txm (p : Snapshot) : (s.publish p).txm = s.txm := rfl
@[simp] theorem State.publish_lock (p : Snapshot) : (s.publish p).lock = s.lock := rfl
@[simp] theorem State.publish_out (p : Snapshot) : (s.publish p).out = s.out := rfl
@[simp] theorem State.publish_env (p : Snapshot) : (s.publish p).env = s.env := rfl

@[simp] theorem State.emptySp_spm : (s.emptySp).spm = { full := false, data := s.spm.data } := rfl
@[simp] theorem State.emptySp_cfg : (s.emptySp).cfg = s.cfg := rfl
@[simp] theorem State.emptySp_cs : (s.emptySp).cs = s.cs := rfl
@[simp] theorem State.emptySp_pu : (s.emptySp).pu = s.pu := rfl
@[simp] theorem State.emptySp_fsm : (s.emptySp).fsm = s.fsm := rfl
@[simp] theorem State.emptySp_txm : (s.emptySp).txm = s.txm := rfl
@[simp] theorem State.emptySp_lock : (s.emptySp).lock = s.lock := rfl
@[simp] theorem State.emptySp_out : (s.emptySp).out = s.out := rfl
@[simp] theorem State.emptySp_env : (s.emptySp).env = s.env := rfl

@[simp] theorem State.noteLiveness_fsm (now : Nat) : (s.noteLiveness now).fsm = { s.fsm with lastRxValid := true, lastRxTime := now } := rfl
@[simp] theorem State.noteLiveness_cfg (now : Nat) : (s.noteLiveness now).cfg = s.cfg := rfl
@[simp] theorem State.noteLiveness_cs (now : Nat) : (s.noteLiveness now).cs = s.cs := rfl
@[simp] theorem State.noteLiveness_pu (now : Nat) : (s.noteLiveness now).pu = s.pu := rfl
@[simp] theorem State.noteLiveness_txm (now : Nat) : (s.noteLiveness now).txm = s.txm := rfl
@[simp] theorem State.noteLiveness_spm (now : Nat) : (s.noteLiveness now).spm = s.spm := rfl
@[simp] theorem State.noteLiveness_lock (now : Nat) : (s.noteLiveness now).lock = s.lock := rfl
@[simp] theorem State.noteLiveness_out (now : Nat) : (s.noteLiveness now).out = s.out := rfl
@[simp] theorem State.noteLiveness_env (now : Nat) : (s.noteLiveness now).env = s.env := rfl

@[simp] theorem State.setProbe_fsm (b : Bool) : (s.setProbe b).fsm = { s.fsm with probePending := b } := rfl
@[simp] theorem State.setProbe_cfg (b : Bool) : (s.setProbe b).cfg = s.cfg := rfl
@[simp] theorem State.setProbe_cs (b : Bool) : (s.setProbe b).cs = s.cs := rfl
@[simp] theorem State.setProbe_pu (b : Bool) : (s.setProbe b).pu = s.pu := rfl
@[simp] theorem State.setProbe_txm (b : Bool) : (s.setProbe b).txm = s.txm := rfl
@[simp] theorem State.setProbe_spm (b : Bool) : (s.setProbe b).spm = s.spm := rfl
@[simp] theorem State.setProbe_lock (b : Bool) : (s.setProbe b).lock = s.lock := rfl
@[simp] theorem State.setProbe_out (b : Bool) : (s.setProbe b).out = s.out := rfl
@[simp] theorem State.setProbe_env (b : Bool) : (s.setProbe b).env = s.env := rfl

@[simp] theorem State.takeMerged_cs_setpoints (r f : Frame) : (s.takeMerged r f).cs.toSetpoints = r.toSetpoints := rfl
@[simp] theorem State.takeMerged_cs_acError (r f : Frame) : (s.takeMerged r f).cs.acError = f.acError := rfl
@[simp] theorem State.takeMerged_cfg (r f : Frame) : (s.takeMerged r f).cfg = s.cfg := rfl
@[simp] theorem State.takeMerged_pu (r f : Frame) : (s.takeMerged r f).pu = s.pu := rfl
@[simp] theorem State.takeMerged_fsm (r f : Frame) : (s.takeMerged r f).fsm = s.fsm := rfl
@[simp] theorem State.takeMerged_txm (r f : Frame) : (s.takeMerged r f).txm = s.txm := rfl
@[simp] theorem State.takeMerged_spm (r f : Frame) : (s.takeMerged r f).spm = s.spm := rfl
@[simp] theorem State.takeMerged_lock (r f : Frame) : (s.takeMerged r f).lock = s.lock := rfl
@[simp] theorem State.takeMerged_out (r f : Frame) : (s.takeMerged r f).out = s.out := rfl
@[simp] theorem State.takeMerged_env (r f : Frame) : (s.takeMerged r f).env = s.env := rfl

@[simp] theorem State.adoptSecondary_cs (t : Byte) : (s.adoptSecondary t).cs = { s.cs with controllerTemp := t } := rfl
@[simp] theorem State.adoptSecondary_fsm (t : Byte) : (s.adoptSecondary t).fsm = { s.fsm with seenSecondary := true } := rfl
@[simp] theorem State.adoptSecondary_cfg (t : Byte) : (s.adoptSecondary t).cfg = s.cfg := rfl
@[simp] theorem State.adoptSecondary_pu (t : Byte) : (s.adoptSecondary t).pu = s.pu := rfl
@[simp] theorem State.adoptSecondary_txm (t : Byte) : (s.adoptSecondary t).txm = s.txm := rfl
@[simp] theorem State.adoptSecondary_spm (t : Byte) : (s.adoptSecondary t).spm = s.spm := rfl
@[simp] theorem State.adoptSecondary_lock (t : Byte) : (s.adoptSecondary t).lock = s.lock := rfl
@[simp] theorem State.adoptSecondary_out (t : Byte) : (s.adoptSecondary t).out = s.out := rfl
@[simp] theorem State.adoptSecondary_env (t : Byte) : (s.adoptSecondary t).env = s.env := rfl

@[simp] theorem State.applyReset_eq (c : Cfg) : s.applyReset c = State.resetWith c s.env := rfl

end Sys2Proof.Machine
end

