-- ==== Sys2Proof/Laws/Ops.lean ====
section
/-! SUPPORT. For each shared operation, once, everything it can do: the provers cite these and do not unfold the
operations. -/

namespace Sys2Proof.Machine

open Sys2Proof.Safety

/-! ### Mailboxes -/

/-- All TX_PUT does: the slot is as R201 says, and nothing else changes. -/
theorem txPut_state (s : State) (w : Buf) :
    (s.txPut w).1 = { s with txm := if s.txm.full then s.txm else { full := true, data := w } } := by
  unfold State.txPut; split <;> rfl

/-- TX_PUT accepts exactly when the slot is empty. -/
theorem txPut_sent (s : State) (w : Buf) : (s.txPut w).2 = !s.txm.full := by
  unfold State.txPut; split <;> simp_all

/-- All TRANSMIT does. -/
theorem transmit_state (s : State) (r : Frame) :
    (s.transmit r).1 = { s with txm := sentInto s.cfg s.txm r } := by
  simp [State.transmit, txPut_state, sentInto]

/-- TRANSMIT is accepted exactly when the slot is empty. -/
theorem transmit_sent (s : State) (r : Frame) : (s.transmit r).2 = !s.txm.full := by
  simp [State.transmit, txPut_sent]

/-- A TX slot that held a frame still holds the same one after TRANSMIT. -/
theorem sentInto_full (c : Cfg) (m : TxMailbox) (r : Frame) (h : m.full = true) : sentInto c m r = m := by
  simp [sentInto, h]

/-- After TRANSMIT the slot is full. -/
theorem sentInto_is_full (c : Cfg) (m : TxMailbox) (r : Frame) : (sentInto c m r).full = true := by
  unfold sentInto; split <;> simp_all

/-! ### The pending-update register -/

/-- All a setter can do when it answers a next state. -/
theorem setField_cases {g : UField} {v : Byte} {s t : State} (h : setField g v s = .next t) :
    fitsIn v (s.cfg.layout.slot g).width = true ∧
      t = { s with
            pu := { dirty := markDirty s.cfg.dirtyBit g s.pu.dirty, sh := s.pu.sh.set v g }
            lock := { held := false }
            out := { s.out with rspPresent := true, rspData := 0 } } := by
  unfold setField at h
  split at h
  · exact ⟨‹_›, by cases h; rfl⟩
  · cases h

/-- Staging a field leaves every other field's shadow. -/
theorem set_get_ne {g g' : UField} (p : Setpoints) (v : Byte) (h : g' ≠ g) : (p.set v g).get g' = p.get g' := by
  cases g <;> cases g' <;> first | rfl | exact absurd rfl h

/-- Staging a field sets its shadow. -/
@[simp] theorem set_get_self (g : UField) (p : Setpoints) (v : Byte) : (p.set v g).get g = v := by
  cases g <;> rfl

/-- Two sets of fields with equal values are equal. -/
theorem setpoints_ext {p q : Setpoints} (h : ∀ g, p.get g = q.get g) : p = q := by
  cases p; cases q
  have h1 := h .onOff; have h2 := h .temperature; have h3 := h .acMode; have h4 := h .fanMode
  have h5 := h .economyMode; have h6 := h .swingMode; have h7 := h .swingStep
  simp_all [Setpoints.get]

/-- The drained value of each field (42_pending_update.md R130). -/
@[simp] theorem drainSetpoints_get (d : DirtyBits) (m : BitVec 7) (sh own : Setpoints) (g : UField) :
    (drainSetpoints d m sh own).get g = if isDirty d g m then sh.get g else own.get g := by
  cases g <;> rfl

/-- Marking a field dirty sets its bit. -/
@[simp] theorem isDirty_markDirty_self (d : DirtyBits) (g : UField) (m : BitVec 7) :
    isDirty d g (markDirty d g m) = true := by
  have hlt := (d.bit g).isLt
  simp only [isDirty, markDirty, BitVec.getLsbD_or, BitVec.getLsbD_shiftLeft]
  simp [hlt]

/-- Marking a field dirty leaves every bit of another number. -/
theorem getLsbD_markDirty_ne (d : DirtyBits) (g : UField) (m : BitVec 7) (k : Nat) (h : k ≠ (d.bit g).val) :
    (markDirty d g m).getLsbD k = m.getLsbD k := by
  simp only [markDirty, BitVec.getLsbD_or, BitVec.getLsbD_shiftLeft]
  rcases Nat.lt_or_ge k (d.bit g).val with hlt | hge
  · simp [hlt]
  · have h1 : k - (d.bit g).val ≠ 0 := by omega
    have h2 : (1#7).getLsbD (k - (d.bit g).val) = false := by
      simp [h1]
    simp [h2]

/-- Marking a field dirty leaves every bit that is set. -/
theorem getLsbD_markDirty_of_set (d : DirtyBits) (g : UField) {m : BitVec 7} {k : Nat} (h : m.getLsbD k = true) :
    (markDirty d g m).getLsbD k = true := by
  simp [markDirty, h]

/-- An injective `DIRTY_BIT` gives two fields two bits. -/
theorem bit_injective {d : DirtyBits} (h : d.wf = true) {g g' : UField} (hne : g' ≠ g) :
    (d.bit g').val ≠ (d.bit g).val := by
  simp only [DirtyBits.wf, decide_eq_true_eq, List.nodup_cons, List.mem_cons, not_or, List.not_mem_nil] at h
  obtain ⟨⟨h12, h13, h14, h15, h16, h17, -⟩, ⟨h23, h24, h25, h26, h27, -⟩, ⟨h34, h35, h36, h37, -⟩,
    ⟨h45, h46, h47, -⟩, ⟨h56, h57, -⟩, ⟨h67, -⟩, -⟩ := h
  intro e
  have e' : d.bit g' = d.bit g := Fin.ext e
  cases g <;> cases g' <;> simp_all [DirtyBits.bit]

/-- Marking one field dirty leaves the dirty bit of another. -/
theorem isDirty_markDirty_ne {d : DirtyBits} (h : d.wf = true) {g g' : UField} (hne : g' ≠ g) (m : BitVec 7) :
    isDirty d g' (markDirty d g m) = isDirty d g' m :=
  getLsbD_markDirty_ne d g m _ (bit_injective h hne)

/-- A mask with a dirty field is not zero. -/
theorem markDirty_ne_zero (d : DirtyBits) (g : UField) (m : BitVec 7) : markDirty d g m ≠ 0 := by
  intro h
  have := isDirty_markDirty_self d g m
  rw [h] at this
  simp [isDirty] at this

/-- All one field of APPLY_STATE does: nothing where the desired value is CurrentState's, else the field is staged
(42_pending_update.md R135). -/
theorem stageIfNew_state (s : State) (g : UField) (v : Byte) :
    s.stageIfNew g v =
      { s with
        pu := if v = s.cs.toSetpoints.get g then s.pu
          else { dirty := markDirty s.cfg.dirtyBit g s.pu.dirty, sh := s.pu.sh.set v g } } := by
  unfold State.stageIfNew; split <;> rfl

/-- The body of APPLY_STATE changes nothing but the pending-update register. -/
theorem stageAll_frame (s : State) (d : Setpoints) : s.stageAll d = { s with pu := (s.stageAll d).pu } := by
  simp only [State.stageAll, stageIfNew_state]

/-! ### Frames -/

/-- All an RX class can do when it answers a next state: it was enabled, the clock did not go back, the frame is of the
class, and the class's body ran after the clock was sampled. -/
theorem onFrame_cases {k : FrameClass} {f : Frame} {now : Nat} {s t : State} {body : State → State}
    (h : onFrame k f now s body = .next t) :
    s.fsm.probePending = false ∧ s.env.clockSeen ≤ now ∧ f.ofClass s.cfg k = true ∧ t = body (s.sampleClock now) := by
  unfold onFrame at h
  split at h
  · cases h
  · split at h
    · cases h
    · split at h
      · refine ⟨by simpa using ‹¬ s.fsm.probePending = true›, by omega, ‹_›, ?_⟩
        cases h; rfl
      · cases h

/-- An enabled frame of the class runs the class's body. -/
theorem onFrame_next {k : FrameClass} {f : Frame} {now : Nat} {s : State} {body : State → State}
    (hp : s.fsm.probePending = false) (hc : s.env.clockSeen ≤ now) (hf : f.ofClass s.cfg k = true) :
    onFrame k f now s body = .next (body (s.sampleClock now)) := by
  have : ¬ now < s.env.clockSeen := by omega
  simp [onFrame, hp, hf, this]

/-- ON_FRAME_RECEIVED is the operation of the one class of the received frame (43_protocol_fsm.md R150). -/
theorem execOnFrameReceived_class (raw : Buf) (now : Nat) (s : State) :
    exec (.onFrameReceived raw now) s =
      exec (classInstr (classOf s.cfg (receivedFrame s.cfg raw)) (receivedFrame s.cfg raw) now) s := by
  simp only [exec, execOnFrameReceived]
  cases classOf s.cfg (receivedFrame s.cfg raw) <;> rfl

/-- The merge, in one record update (43_protocol_fsm.md R160). -/
theorem merge_state (s : State) (f : Frame) :
    s.merge f =
      { s with
        cs :=
          { (s.exchangeReply f).1.toSetpoints with
            acError := f.acError
            controllerTemp := if s.cfg.statusOverwritesCtrlTemp then f.controllerTemp else s.cs.controllerTemp }
        pu :=
          { s.pu with
            dirty := if s.pending then clearedMask s.cfg.clearPolicy (!s.txm.full) s.pu.dirty else s.pu.dirty }
        txm := sentInto s.cfg s.txm (s.exchangeReply f).1
        lock := { held := false } } := by
  have hr : s.enterRegion.exchangeReply f = s.exchangeReply f := rfl
  have hp : (s.exchangeReply f).2 = s.pending := rfl
  simp only [State.merge, hr, hp, transmit_state, transmit_sent]
  split <;> rfl

/-- The publication gate, in one record update (43_protocol_fsm.md R161). -/
theorem publishIfClean_state (s : State) :
    s.publishIfClean = { s with spm := if s.pending then s.spm else { full := true, data := s.cs } } := by
  unfold State.publishIfClean; split <;> rfl

/-! ### One step -/

/-- The decoder gives no operation for a reset alone. -/
theorem decode_reset {c : Cfg} {r : Request} {straps : Cfg} (h : decode c r = .error (.resetEvent straps)) :
    r = .reset straps := by
  cases r <;> simp_all [decode]

/-- All a step can do when it answers a next state: nothing was presented and nothing changed; or a reset was; or the
request was decoded in a configuration that meets R2 and its operation ran. -/
theorem step_cases {s t : State} (h : step s = .next t) :
    (s.env.requests = [] ∧ t = s) ∨
      (∃ c rest, s.env.requests = .reset c :: rest ∧ t = (s.withRequests rest).applyReset c) ∨
      (∃ r rest i, s.env.requests = r :: rest ∧ s.cfg.wf = true ∧ decode s.cfg r = .ok i ∧
        exec i (s.withRequests rest) = .next t) := by
  unfold step at h
  split at h
  · exact .inl ⟨‹_›, by cases h; rfl⟩
  · next r rest hr =>
    unfold serve at h
    split at h
    · next straps hd => exact .inr (.inl ⟨straps, rest, by rw [hr, decode_reset hd], by cases h; rfl⟩)
    · next i hd =>
      split at h
      · exact .inr (.inr ⟨r, rest, i, hr, ‹_›, hd, h⟩)
      · cases h

end Sys2Proof.Machine
end

