-- ==== Sys2Proof/Laws/PerInstr.lean ====
section
/-! SUPPORT. The family `CommandFits`: an operation that the encoder puts on the host command port makes a command word
of the port's width (30_encoding.md R74). One lemma per constructor of Instr. -/

namespace Sys2Proof.Laws

open Sys2Proof.Safety

/-- The operation's command word, if it has one, fits the host command port (30_encoding.md R74). -/
def CommandFits.Statement (i : Instr) : Prop :=
  ∀ (c : Cfg) (cmd : Word) (now : Nat), encode c i = some (.host cmd now) → cmd.toNat < 2 ^ commandWidth c.layout

/-- A field is at most a byte wide. -/
theorem width_le (p : Slot) : p.width ≤ 8 := by
  have h := List.countP_le_length (p := fun i => p.mask.getLsbD i) (l := List.range 8)
  simpa [Slot.width, popcount] using h

/-- `arg` leaves room for the selector in the carrier of the command word. -/
theorem argWidth_le (l : Layout) : argWidth l ≤ 56 := by
  have h1 := width_le l.onOff
  have h2 := width_le l.temperature
  have h3 := width_le l.acMode
  have h4 := width_le l.fanMode
  have h5 := width_le l.economyMode
  have h6 := width_le l.swingMode
  have h7 := width_le l.swingStep
  simp only [argWidth, setpointsWidth]
  omega

/-- A byte fits `arg`. -/
theorem byte_arg (v : Byte) (l : Layout) : v.toNat < 2 ^ argWidth l :=
  lt_of_lt_of_le v.isLt (Nat.pow_le_pow_right (by omega) (by simp only [argWidth]; omega))

/-- The packed operand of APPLY_STATE fits `arg` (30_encoding.md R76). -/
theorem setpoints_arg (d : Setpoints) (l : Layout) : packSetpoints l d < 2 ^ argWidth l := by
  refine lt_of_lt_of_le (packFields_lt _) (Nat.pow_le_pow_right (by omega) ?_)
  simp only [setpointFields, List.map_cons, List.map_nil, List.sum_cons, List.sum_nil, argWidth, setpointsWidth]
  omega

/-- The numeric value of a command word. -/
theorem commandWord_toNat (l : Layout) {op arg : Nat} (ho : op < 32) (ha : arg < 2 ^ argWidth l) :
    (commandWord l op arg).toNat = op * 2 ^ argWidth l + arg ∧ op * 2 ^ argWidth l + arg < 2 ^ commandWidth l := by
  have h : op * 2 ^ argWidth l + arg < 2 ^ commandWidth l := by
    have h1 : (op + 1) * 2 ^ argWidth l ≤ 2 ^ 5 * 2 ^ argWidth l := Nat.mul_le_mul_right _ (by omega)
    rw [commandWidth, Nat.pow_add]
    rw [Nat.add_mul] at h1
    omega
  refine ⟨?_, h⟩
  have h64 : 2 ^ commandWidth l ≤ 2 ^ 64 :=
    Nat.pow_le_pow_right (by omega) (by have := argWidth_le l; simp only [commandWidth]; omega)
  simp only [commandWord, BitVec.toNat_ofNat]
  exact Nat.mod_eq_of_lt (by omega)

/-- A host command fits the port. -/
theorem command_fits {c : Cfg} {cmd : Word} {now op arg now' : Nat}
    (h : commandRequest c op arg now' = .host cmd now) (ho : op < 32)
    (ha : arg < 2 ^ argWidth c.layout) : cmd.toNat < 2 ^ commandWidth c.layout := by
  simp only [commandRequest, Request.host.injEq] at h
  obtain ⟨rfl, -⟩ := h
  rw [(commandWord_toNat c.layout ho ha).1]
  exact (commandWord_toNat c.layout ho ha).2

/-- What every lemma of the family says, by cases on the operation. -/
theorem fits_port (i : Instr) : CommandFits.Statement i := by
  intro c cmd now h
  cases i <;> simp only [encode, Option.some.injEq, reduceCtorEq] at h
  case applyState d => exact command_fits h (by decide) (setpoints_arg d _)
  all_goals
    first
    | exact command_fits h (by decide) (Nat.two_pow_pos _)
    | exact command_fits h (by decide) (byte_arg _ _)

theorem CommandFits.rxStatusLoginreq (f : Frame) (now : Nat) :
    CommandFits.Statement (.rxStatusLoginreq f now) := fits_port _
theorem CommandFits.rxStatusLoginreqSecondary (f : Frame) (now : Nat) :
    CommandFits.Statement (.rxStatusLoginreqSecondary f now) := fits_port _
theorem CommandFits.rxStatusExchange (f : Frame) (now : Nat) :
    CommandFits.Statement (.rxStatusExchange f now) := fits_port _
theorem CommandFits.rxLogin (f : Frame) (now : Nat) : CommandFits.Statement (.rxLogin f now) := fits_port _
theorem CommandFits.rxLoginProbe : CommandFits.Statement (.rxLoginProbe) := fits_port _
theorem CommandFits.rxError (f : Frame) (now : Nat) : CommandFits.Statement (.rxError f now) := fits_port _
theorem CommandFits.rxReserved (f : Frame) (now : Nat) : CommandFits.Statement (.rxReserved f now) := fits_port _
theorem CommandFits.rxToSecondary (f : Frame) (now : Nat) :
    CommandFits.Statement (.rxToSecondary f now) := fits_port _
theorem CommandFits.rxIgnored (f : Frame) (now : Nat) : CommandFits.Statement (.rxIgnored f now) := fits_port _
theorem CommandFits.onFrameReceived (raw : Buf) (now : Nat) :
    CommandFits.Statement (.onFrameReceived raw now) := fits_port _
theorem CommandFits.setOnoff (v : Byte) : CommandFits.Statement (.setOnoff v) := fits_port _
theorem CommandFits.setTemp (v : Byte) : CommandFits.Statement (.setTemp v) := fits_port _
theorem CommandFits.setMode (v : Byte) : CommandFits.Statement (.setMode v) := fits_port _
theorem CommandFits.setFanmode (v : Byte) : CommandFits.Statement (.setFanmode v) := fits_port _
theorem CommandFits.setEconomy (v : Byte) : CommandFits.Statement (.setEconomy v) := fits_port _
theorem CommandFits.setSwingmode (v : Byte) : CommandFits.Statement (.setSwingmode v) := fits_port _
theorem CommandFits.setSwingstep (v : Byte) : CommandFits.Statement (.setSwingstep v) := fits_port _
theorem CommandFits.applyState (d : Setpoints) : CommandFits.Statement (.applyState d) := fits_port _
theorem CommandFits.getOnoff : CommandFits.Statement (.getOnoff) := fits_port _
theorem CommandFits.getTemp : CommandFits.Statement (.getTemp) := fits_port _
theorem CommandFits.getMode : CommandFits.Statement (.getMode) := fits_port _
theorem CommandFits.getFanmode : CommandFits.Statement (.getFanmode) := fits_port _
theorem CommandFits.getEconomy : CommandFits.Statement (.getEconomy) := fits_port _
theorem CommandFits.getSwingmode : CommandFits.Statement (.getSwingmode) := fits_port _
theorem CommandFits.getSwingstep : CommandFits.Statement (.getSwingstep) := fits_port _
theorem CommandFits.getControllertemp : CommandFits.Statement (.getControllertemp) := fits_port _
theorem CommandFits.isBound (now : Nat) : CommandFits.Statement (.isBound now) := fits_port _
theorem CommandFits.updatePending : CommandFits.Statement (.updatePending) := fits_port _
theorem CommandFits.getUpdateFields : CommandFits.Statement (.getUpdateFields) := fits_port _
theorem CommandFits.stateTake : CommandFits.Statement (.stateTake) := fits_port _
theorem CommandFits.txTake : CommandFits.Statement (.txTake) := fits_port _
theorem CommandFits.reservedOpsel00 : CommandFits.Statement (.reservedOpsel00) := fits_port _
theorem CommandFits.reservedOpsel16 : CommandFits.Statement (.reservedOpsel16) := fits_port _
theorem CommandFits.reservedOpsel17 : CommandFits.Statement (.reservedOpsel17) := fits_port _
theorem CommandFits.reservedOpsel18 : CommandFits.Statement (.reservedOpsel18) := fits_port _
theorem CommandFits.reservedOpsel19 : CommandFits.Statement (.reservedOpsel19) := fits_port _
theorem CommandFits.reservedOpsel1A : CommandFits.Statement (.reservedOpsel1A) := fits_port _
theorem CommandFits.reservedOpsel1B : CommandFits.Statement (.reservedOpsel1B) := fits_port _
theorem CommandFits.reservedOpsel1C : CommandFits.Statement (.reservedOpsel1C) := fits_port _
theorem CommandFits.reservedOpsel1D : CommandFits.Statement (.reservedOpsel1D) := fits_port _
theorem CommandFits.reservedOpsel1E : CommandFits.Statement (.reservedOpsel1E) := fits_port _
theorem CommandFits.reservedOpsel1F : CommandFits.Statement (.reservedOpsel1F) := fits_port _
theorem CommandFits.decode (b : Buf) : CommandFits.Statement (.decode b) := fits_port _
theorem CommandFits.encode (f : Frame) : CommandFits.Statement (.encode f) := fits_port _
theorem CommandFits.toWire (b : Buf) : CommandFits.Statement (.toWire b) := fits_port _
theorem CommandFits.fromWire (w : Buf) : CommandFits.Statement (.fromWire w) := fits_port _
theorem CommandFits.transmit (r : Frame) : CommandFits.Statement (.transmit r) := fits_port _
theorem CommandFits.txPut (w : Buf) : CommandFits.Statement (.txPut w) := fits_port _
theorem CommandFits.spPublish (p : Snapshot) : CommandFits.Statement (.spPublish p) := fits_port _
theorem CommandFits.hasPending : CommandFits.Statement (.hasPending) := fits_port _
theorem CommandFits.drainInto (r : Frame) : CommandFits.Statement (.drainInto r) := fits_port _
theorem CommandFits.clearDirty (sent : Bool) : CommandFits.Statement (.clearDirty sent) := fits_port _

end Sys2Proof.Laws
end

