-- ==== Sys2Proof/Tests/Slice0.lean ====
section
/-! SUPPORT. The model's own tests. Expected results come from 95_test_vectors.md, whose vector or program is named
with each test, or from the encodings of 30_encoding.md. After them, for every statement with hypotheses, a witness:
a concrete state and operands that meet all of them. -/

namespace Sys2Proof.Tests

open Sys2Proof.Machine Sys2Proof.Safety

/-! ### Small states and views -/

/-- The block after reset under the straps `c`. -/
def after (c : Cfg) : State := State.resetWith c { requests := [], clockSeen := 0 }

/-- `CFG_B` after reset. -/
def stB : State := after cfgB

/-- `CFG_C` after reset. -/
def stC : State := after cfgC

/-- `s` with one request presented. -/
def asked (s : State) (r : Request) : State := { s with env := { s.env with requests := [r] } }

/-- What a test looks at in a next state. -/
def seen {α : Type} (view : State → α) (o : Host.Outcome State Fault Refusal) : Option α :=
  match o with
  | .next t => some (view t)
  | .fault _ => none
  | .refused _ => none

/-- The response at the host command port. -/
def answer (o : Host.Outcome State Fault Refusal) : Option (Bool × Word) :=
  seen (fun t => (t.out.rspPresent, t.out.rspData)) o

/-- The TX slot as plain bytes. -/
def sent (o : Host.Outcome State Fault Refusal) : Option (Bool × Buf) :=
  seen (fun t => (t.txm.full, fromWire t.txm.data)) o

/-- The dirty mask and the shadows. -/
def staged (o : Host.Outcome State Fault Refusal) : Option PendingUpdate := seen (fun t => t.pu) o

/-- `CFG_B` with the CurrentState of V-PU-17 and temperature 24 pending. -/
def stPending : State :=
  { stB with
    cs := { onOff := 1, temperature := 22, acMode := 3, fanMode := 0, economyMode := 0, swingMode := 0, swingStep := 0,
            acError := 0, controllerTemp := 0 }
    pu := { dirty := 0b0000010, sh := { Setpoints.zero with temperature := 24 } } }

/-- `stPending` with the TX slot full. -/
def stFull (p : ClearPolicy) : State :=
  { stPending with
    cfg := { cfgB with clearPolicy := p }
    txm := { full := true, data := ⟨0xFA, 0xFC, 0xE7, 0xFF, 0xFF, 0xFF, 0xFF, 0xFF⟩ } }

/-- V-FSM-1's frame: a broadcast login request. -/
def frLoginreq : Frame :=
  { Frame.zero with messageSource := 1, broadcast := true, messageDest := 2, loginBit := true, messageType := 1,
                    updateMagic := 7 }

/-- V-FSM-7's frame, the same for the secondary. -/
def frLoginreqC : Frame :=
  { Frame.zero with messageSource := 1, broadcast := true, messageDest := 3, loginBit := true, messageType := 1,
                    onOff := 1, temperature := 22, acMode := 3 }

/-- V-FSM-9's frame: an ordinary exchange. -/
def frExchange : Frame :=
  { Frame.zero with messageSource := 1, messageDest := 2, messageType := 1, onOff := 1, temperature := 22, acMode := 3 }

/-- V-FSM-15's frame. -/
def frLogin : Frame := { Frame.zero with messageSource := 1, messageDest := 2, messageType := 2 }

/-- V-FSM-16's frame. -/
def frError : Frame := { Frame.zero with messageSource := 1, messageDest := 2, messageType := 3, acError := 1 }

/-- V-FSM-17's frame. -/
def frReserved : Frame := { Frame.zero with messageSource := 1, messageDest := 2 }

/-- V-FSM-18's frame. -/
def frToSecondary : Frame :=
  { Frame.zero with messageSource := 1, messageDest := 3, messageType := 1, controllerTemp := 22 }

/-- V-FSM-21's frame. -/
def frIgnored : Frame :=
  { Frame.zero with messageSource := 1, messageDest := 5, messageType := 1, onOff := 1, temperature := 22, acMode := 3 }

/-- The wire bytes of V-FSM-9. -/
def wireExchange : Buf := ⟨0xFE, 0xFD, 0xEF, 0xF8, 0xE9, 0xFF, 0xFF, 0xFF⟩

/-! ### Configurations and well-formed operations: every check refuses an ill-formed term -/

theorem test_reference_configurations_wf : cfgA.wf = true ∧ cfgB.wf = true ∧ cfgC.wf = true := by decide

theorem test_wf_refuses_addresses :
    Cfg.wf { cfgB with addrUnit := 2 } = false ∧ Cfg.wf { cfgB with addrUnit := 3 } = false := by decide

theorem test_wf_refuses_parameters :
    Cfg.wf { cfgB with ticksPerSecond := 0 } = false ∧
      Cfg.wf { cfgB with typeCode := ⟨2, 1, 3, 0⟩ } = false ∧
      Cfg.wf { cfgB with typeCode := ⟨1, 2, 2, 0⟩ } = false ∧
      Cfg.wf { cfgB with dirtyBit := ⟨0, 1, 2, 3, 4, 5, 5⟩ } = false := by decide

theorem test_wf_refuses_rows :
    Slot.wf ⟨2, 1, 0⟩ = false ∧ Slot.wf ⟨3, 0, 0⟩ = false ∧ Slot.wf ⟨3, 5, 0⟩ = false ∧ Slot.wf ⟨3, 6, 0⟩ = false ∧
      Slot.wf ⟨3, 1, 8⟩ = false ∧ Slot.wf ⟨3, 6, 1⟩ = true := by decide

theorem test_wf_refuses_layouts :
    Layout.wf { Layout.default with onOff := ⟨3, 0x02, 1⟩ } = false ∧
      Layout.wf { Layout.default with updateMagic := ⟨5, 0x70, 4⟩ } = false ∧
      Layout.wf { Layout.default with onOff := ⟨7, 0x01, 0⟩ } = true := by decide

theorem test_wf_refuses_wide_setters :
    (∀ i ∈ [Instr.setOnoff 2, .setTemp 128, .setMode 8, .setFanmode 8, .setEconomy 2, .setSwingmode 2, .setSwingstep 2],
        i.wf cfgB = false) ∧
      (∀ i ∈ [Instr.setOnoff 1, .setTemp 127, .setMode 7, .setFanmode 7, .setEconomy 1, .setSwingmode 1,
          .setSwingstep 1], i.wf cfgB = true) := by decide

theorem test_wf_refuses_wide_records :
    (∀ d ∈ [(⟨2, 0, 0, 0, 0, 0, 0⟩ : Setpoints), ⟨0, 128, 0, 0, 0, 0, 0⟩, ⟨0, 0, 8, 0, 0, 0, 0⟩, ⟨0, 0, 0, 8, 0, 0, 0⟩,
        ⟨0, 0, 0, 0, 2, 0, 0⟩, ⟨0, 0, 0, 0, 0, 2, 0⟩, ⟨0, 0, 0, 0, 0, 0, 2⟩], Instr.wf cfgB (.applyState d) = false) ∧
      Instr.wf cfgB (.spPublish { CurrentState.zero with acError := 2 }) = false ∧
      Instr.wf cfgB (.spPublish { CurrentState.zero with controllerTemp := 64 }) = false := by decide

theorem test_wf_refuses_wide_frames :
    (∀ f ∈ [{ frExchange with controllerPresent := 2 }, { frExchange with updateMagic := 16 },
        { frExchange with controllerTemp := 64 }, { frExchange with acError := 2 },
        { frExchange with temperature := 128 }],
      Instr.wf cfgB (.transmit f) = false ∧ Instr.wf cfgB (.drainInto f) = false ∧ Instr.wf cfgB (.rxStatusExchange f 0) = false) := by decide

theorem test_wf_refuses_frames_no_bytes_decode_to :
    Instr.wf cfgB (.rxLogin { frLogin with loginBit := true } 0) = false ∧
      Instr.wf cfgB (.rxIgnored { frIgnored with broadcast := true } 0) = false ∧
      Instr.wf cfgB (.rxLogin { frLogin with broadcast := true, loginBit := true } 0) = true := by decide

theorem test_wf_refuses_frames_of_another_class :
    (∀ k ∈ [FrameClass.statusLoginreq, .statusExchange, .login, .error, .reserved, .toSecondary],
        (classInstr k frIgnored 0).wf cfgB = false) ∧
      Instr.wf cfgB (.rxIgnored frLogin 0) = false ∧
      Instr.wf cfgB (.rxStatusLoginreqSecondary frLoginreq 0) = false ∧
      Instr.wf cfgC (.rxStatusLoginreq frLoginreqC 0) = false := by decide

theorem test_wf_accepts_frames_of_the_class :
    Instr.wf cfgB (.rxStatusLoginreq frLoginreq 0) = true ∧ Instr.wf cfgC (.rxStatusLoginreqSecondary frLoginreqC 0) = true ∧
      Instr.wf cfgB (.rxStatusExchange frExchange 0) = true ∧ Instr.wf cfgB (.rxLogin frLogin 0) = true ∧
      Instr.wf cfgB (.rxError frError 0) = true ∧ Instr.wf cfgB (.rxReserved frReserved 0) = true ∧
      Instr.wf cfgB (.rxToSecondary frToSecondary 0) = true ∧ Instr.wf cfgB (.rxIgnored frIgnored 0) = true := by decide

/-! ### Decoding: every constructor's word, written out from the spec's encoding -/

/-- The frames of V-FSM-1, V-FSM-7, V-FSM-9, V-FSM-15 to V-FSM-18 and V-FSM-21, as wire bytes. -/
theorem test_decode_frames :
    decodeRx cfgB ⟨0x7E, 0xDF, 0xEF, 0xFF, 0xFF, 0x8F, 0xFF, 0xFF⟩ 1000 = .rxStatusLoginreq frLoginreq 1000 ∧
      decodeRx cfgC ⟨0x7E, 0xDF, 0xEF, 0xF8, 0xE9, 0xFF, 0xFF, 0xFF⟩ 50 = .rxStatusLoginreqSecondary frLoginreqC 50 ∧
      decodeRx cfgB wireExchange 0 = .rxStatusExchange frExchange 0 ∧
      decodeRx cfgB ⟨0xFE, 0xFD, 0xDF, 0xFF, 0xFF, 0xFF, 0xFF, 0xFF⟩ 5 = .rxLogin frLogin 5 ∧
      decodeRx cfgB ⟨0xFE, 0xFD, 0xCF, 0x7F, 0xFF, 0xFF, 0xFF, 0xFF⟩ 500 = .rxError frError 500 ∧
      decodeRx cfgB ⟨0xFE, 0xFD, 0xFF, 0xFF, 0xFF, 0xFF, 0xFF, 0xFF⟩ 700 = .rxReserved frReserved 700 ∧
      decodeRx cfgB ⟨0xFE, 0xFC, 0xEF, 0xFF, 0xFF, 0xFF, 0xD3, 0xFF⟩ 100 = .rxToSecondary frToSecondary 100 ∧
      decodeRx cfgB ⟨0xFE, 0xFA, 0xEF, 0xF8, 0xE9, 0xFF, 0xFF, 0xFF⟩ 900 = .rxIgnored frIgnored 900 := by decide

/-- The words of ON_FRAME_RECEIVED are those of the classes (43_protocol_fsm.md R150). -/
theorem test_decode_entry_point :
    encode cfgB (.onFrameReceived wireExchange 7) = some (.rx wireExchange 7) ∧
      decode cfgB (.rx wireExchange 7) = .ok (.rxStatusExchange frExchange 7) := ⟨by decide, by rfl⟩

/-- V-HOST-1 to V-HOST-8. -/
theorem test_decode_setters :
    decode cfgB (.host 0x020001 0) = .ok (.setOnoff 1) ∧ decode cfgB (.host 0x040016 0) = .ok (.setTemp 22) ∧
      decode cfgB (.host 0x060004 0) = .ok (.setMode 4) ∧ decode cfgB (.host 0x080002 0) = .ok (.setFanmode 2) ∧
      decode cfgB (.host 0x0A0001 0) = .ok (.setEconomy 1) ∧ decode cfgB (.host 0x0C0001 0) = .ok (.setSwingmode 1) ∧
      decode cfgB (.host 0x0E0001 0) = .ok (.setSwingstep 1) :=
  ⟨by rfl, by rfl, by rfl, by rfl, by rfl, by rfl, by rfl⟩

/-- V-HOST-9, V-HOST-10 and V-HOST-15 to V-HOST-17. -/
theorem test_decode_arguments :
    decode cfgB (.host 0x10032D 0) = .ok (.applyState ⟨1, 22, 3, 0, 0, 0, 0⟩) ∧
      decode cfgB (.host 0x11FFFF 0) = .ok (.applyState ⟨1, 127, 7, 7, 1, 1, 1⟩) ∧
      decode cfgB (.host 0x0400FF 0) = .ok (.setTemp 127) ∧ decode cfgB (.host 0x03FFFE 0) = .ok (.setOnoff 0) ∧
      decode cfgB (.host 0x14FFFF 0) = .ok .getTemp :=
  ⟨by rfl, by rfl, by rfl, by rfl, by rfl⟩

/-- V-HOST-11 to V-HOST-14. -/
theorem test_decode_queries :
    decode cfgB (.host 0x120000 0) = .ok .getOnoff ∧ decode cfgB (.host 0x140000 0) = .ok .getTemp ∧
      decode cfgB (.host 0x160000 0) = .ok .getMode ∧ decode cfgB (.host 0x180000 0) = .ok .getFanmode ∧
      decode cfgB (.host 0x1A0000 0) = .ok .getEconomy ∧ decode cfgB (.host 0x1C0000 0) = .ok .getSwingmode ∧
      decode cfgB (.host 0x1E0000 0) = .ok .getSwingstep ∧ decode cfgB (.host 0x200000 0) = .ok .getControllertemp ∧
      decode cfgB (.host 0x220000 9) = .ok (.isBound 9) ∧ decode cfgB (.host 0x240000 0) = .ok .updatePending ∧
      decode cfgB (.host 0x260000 0) = .ok .getUpdateFields ∧ decode cfgB (.host 0x280000 0) = .ok .stateTake ∧
      decode cfgB (.host 0x2A0000 0) = .ok .txTake :=
  ⟨by rfl, by rfl, by rfl, by rfl, by rfl, by rfl, by rfl, by rfl, by rfl, by rfl, by rfl, by rfl, by rfl⟩

/-- V-HOST-18, V-HOST-19 and the rows of opcode_table.json between them; and a bit above the port's 22 wires. -/
theorem test_decode_reserved_selectors :
    decode cfgB (.host 0x01FFFF 0) = .ok .reservedOpsel00 ∧ decode cfgB (.host 0x2C0000 0) = .ok .reservedOpsel16 ∧
      decode cfgB (.host 0x2E0000 0) = .ok .reservedOpsel17 ∧ decode cfgB (.host 0x300000 0) = .ok .reservedOpsel18 ∧
      decode cfgB (.host 0x320000 0) = .ok .reservedOpsel19 ∧ decode cfgB (.host 0x340000 0) = .ok .reservedOpsel1A ∧
      decode cfgB (.host 0x360000 0) = .ok .reservedOpsel1B ∧ decode cfgB (.host 0x380000 0) = .ok .reservedOpsel1C ∧
      decode cfgB (.host 0x3A0000 0) = .ok .reservedOpsel1D ∧ decode cfgB (.host 0x3C0000 0) = .ok .reservedOpsel1E ∧
      decode cfgB (.host 0x3FFFFF 0) = .ok .reservedOpsel1F ∧
      decode cfgB (.host 0x42A0000 0) = .ok .txTake :=
  ⟨by rfl, by rfl, by rfl, by rfl, by rfl, by rfl, by rfl, by rfl, by rfl, by rfl, by rfl, by rfl⟩

/-- The codec ports and the probe carry no opcode: the port is the operation (30_encoding.md R73). -/
theorem test_decode_ports :
    decode cfgB .probe = .ok .rxLoginProbe ∧
      decode cfgB (.decIn ⟨5, 3, 0x18, 0, 0, 0, 0, 0⟩) = .ok (.decode ⟨5, 3, 0x18, 0, 0, 0, 0, 0⟩) ∧
      decode cfgB (.encIn frLogin) = .ok (.encode frLogin) ∧
      decode cfgB (.encIn { frLogin with controllerTemp := 65 }) = .ok (.encode { frLogin with controllerTemp := 65 }) ∧
      decode cfgB (.lcToWire Buf.zero) = .ok (.toWire Buf.zero) ∧
      decode cfgB (.lcFromWire Buf.zero) = .ok (.fromWire Buf.zero) ∧
      decode cfgB (.reset cfgB) = .error (.resetEvent cfgB) :=
  ⟨by rfl, by rfl, by rfl, by rfl, by rfl, by rfl, by rfl⟩

/-- The internal functions have no port (opcode_table.json, format INTERNAL). -/
theorem test_encode_internal_functions_have_no_request :
    ∀ i ∈ [Instr.transmit frLogin, .txPut Buf.zero, .spPublish CurrentState.zero, .hasPending, .drainInto frLogin,
        .clearDirty true], encode cfgB i = none := by decide

/-- Rows of opcode_table.json as the host numbers their words. -/
theorem test_decode_table_words :
    decodeTableWord 24 0x040018 = some (.setTemp 24) ∧ decodeTableWord 24 0x2A0000 = some .txTake ∧
      decodeTableWord 64 0x00000000_00302000 = some (.rxError
        { Frame.zero with messageDest := 32, loginBit := true, messageType := 3 } 0) := by decide

/-- A word presented by withFetchWord is run by the very next step. -/
theorem test_fetched_word_runs :
    answer (step (State.reset.withFetchWord 24 0x260000)) = some (true, 0) ∧
      seen (fun t => t.fsm.lastRxValid) (step (State.reset.withFetchWord 64 0x00102000)) = some true := by decide

/-! ### DECODE, ENCODE and the line coding -/

/-- V-DEC-9. -/
theorem test_exec_decode :
    seen (fun t => t.out.decOut) (exec (.decode ⟨0x20, 0xA1, 0x10, 0xB5, 0x98, 0xA6, 0x2D, 0x00⟩) (after cfgA)) =
      some { Frame.zero with
        messageSource := 32, messageDest := 33, unknownBit := true, loginBit := true, messageType := 1, onOff := 1
        temperature := 24, acMode := 2, fanMode := 3, economyMode := 1, swingMode := 1, swingStep := 1
        controllerPresent := 1, updateMagic := 10, controllerTemp := 22, acError := 1 } := by decide

/-- V-DEC-3: all ones, broadcast. -/
theorem test_decode_all_ones :
    decodeFrame Layout.default 2 ⟨0xFF, 0xFF, 0xFF, 0xFF, 0xFF, 0xFF, 0xFF, 0xFF⟩ =
      { messageSource := 127, broadcast := true, messageDest := 2, unknownBit := true, loginBit := true
        messageType := 3, writeBit := true, onOff := 1, temperature := 127, acMode := 7, fanMode := 7, economyMode := 1
        swingMode := 1, swingStep := 1, controllerPresent := 1, updateMagic := 15, controllerTemp := 63
        acError := 1 } := by decide

/-- V-ENC-21. -/
theorem test_exec_encode :
    seen (fun t => t.out.encOut) (exec (.encode { Frame.zero with
        messageSource := 32, messageDest := 1, unknownBit := true, loginBit := true, messageType := 1, onOff := 1
        temperature := 24, acMode := 2, fanMode := 3, economyMode := 1, swingMode := 1, swingStep := 1
        controllerPresent := 1, updateMagic := 10, controllerTemp := 22, acError := 1 }) (after cfgA)) =
      some ⟨0x20, 0xA1, 0x10, 0xB5, 0x98, 0xA6, 0x2D, 0x00⟩ := by decide

/-- R97: the mask removes what a field's width does not hold: controllerTemp 65 is written as 1, bit 7 stays clear. -/
theorem test_encode_masks_wide_values :
    seen (fun t => t.out.encOut) (step (asked stB (.encIn { Frame.zero with controllerTemp := 65, onOff := 3 }))) =
      some ⟨0, 0, 0, 1, 0, 0, 2, 0⟩ := by decide

/-- V-LAY-2: each field is written through its own row (70_reset_and_hazards.md R270). -/
theorem test_encode_through_own_row :
    encodeFrame { Layout.default with onOff := ⟨7, 0x01, 0⟩ } { Frame.zero with onOff := 1, acMode := 3 } =
      ⟨0, 0, 0, 6, 0, 0, 0, 1⟩ := by decide

/-- V-LC-5. -/
theorem test_exec_line_coding :
    seen (fun t => t.out.lcOut) (exec (.toWire ⟨0x01, 0x23, 0x45, 0x67, 0x89, 0xAB, 0xCD, 0xEF⟩) stB) =
        some ⟨0xFE, 0xDC, 0xBA, 0x98, 0x76, 0x54, 0x32, 0x10⟩ ∧
      seen (fun t => t.out.lcOut) (exec (.fromWire ⟨0xFE, 0xDC, 0xBA, 0x98, 0x76, 0x54, 0x32, 0x10⟩) stB) =
        some ⟨0x01, 0x23, 0x45, 0x67, 0x89, 0xAB, 0xCD, 0xEF⟩ := by decide

/-! ### The pending-update register -/

/-- V-PU-1 to V-PU-7. -/
theorem test_exec_setters :
    staged (exec (.setOnoff 1) stB) = some ⟨0b0000001, ⟨1, 0, 0, 0, 0, 0, 0⟩⟩ ∧
      staged (exec (.setTemp 22) stB) = some ⟨0b0000010, ⟨0, 22, 0, 0, 0, 0, 0⟩⟩ ∧
      staged (exec (.setMode 4) stB) = some ⟨0b0000100, ⟨0, 0, 4, 0, 0, 0, 0⟩⟩ ∧
      staged (exec (.setFanmode 2) stB) = some ⟨0b0001000, ⟨0, 0, 0, 2, 0, 0, 0⟩⟩ ∧
      staged (exec (.setEconomy 1) stB) = some ⟨0b0010000, ⟨0, 0, 0, 0, 1, 0, 0⟩⟩ ∧
      staged (exec (.setSwingmode 1) stB) = some ⟨0b0100000, ⟨0, 0, 0, 0, 0, 1, 0⟩⟩ ∧
      staged (exec (.setSwingstep 1) stB) = some ⟨0b1000000, ⟨0, 0, 0, 0, 0, 0, 1⟩⟩ := by decide

/-- V-PU-17 and V-PU-19. -/
theorem test_exec_applyState :
    staged (exec (.applyState ⟨1, 22, 3, 0, 0, 0, 0⟩) stPending) = some stPending.pu ∧
      staged (exec (.applyState ⟨0, 22, 3, 0, 0, 0, 0⟩) stPending) = some ⟨0b0000011, stPending.pu.sh⟩ := by decide

/-- V-PU-11, and the mask of V-PU-17's start. -/
theorem test_exec_status_queries :
    answer (exec .updatePending stB) = some (true, 0) ∧ answer (exec .updatePending stPending) = some (true, 1) ∧
      answer (exec .getUpdateFields stPending) = some (true, 2) ∧
      seen (fun t => t.out.retBit) (exec .hasPending stPending) = some true := by decide

/-- V-PU-20 and V-PU-21. -/
theorem test_exec_drainInto :
    seen (fun t => (t.out.retBit, t.out.retFrame.toSetpoints, t.pu.dirty))
        (exec (.drainInto { Frame.zero with onOff := 1, temperature := 20, acMode := 3, fanMode := 1 })
          { stB with pu := ⟨0b0000110, ⟨0, 22, 4, 0, 0, 0, 0⟩⟩ }) =
        some (true, ⟨1, 22, 4, 1, 0, 0, 0⟩, 0b0000110) ∧
      seen (fun t => (t.out.retBit, t.out.retFrame.toSetpoints))
        (exec (.drainInto { Frame.zero with onOff := 1, temperature := 20 })
          { stB with pu := ⟨0, ⟨0, 22, 4, 0, 0, 0, 0⟩⟩ }) = some (false, ⟨1, 20, 0, 0, 0, 0, 0⟩) := by decide

/-- V-PU-22 and V-PU-23. -/
theorem test_exec_clearDirty :
    ∀ p ∈ [ClearPolicy.afterHandoff, .onMerge, .never],
      staged (exec (.clearDirty true) (stFull p)) = some ⟨if p = .never then 2 else 0, stPending.pu.sh⟩ ∧
        staged (exec (.clearDirty false) (stFull p)) = some ⟨if p = .onMerge then 0 else 2, stPending.pu.sh⟩ := by
  decide

/-! ### The mailboxes and the queries -/

/-- V-MB-1 and V-MB-2; TRANSMIT of A2's frame gives the same bytes (V-LC-1). -/
theorem test_exec_txPut_transmit :
    seen (fun t => (t.txm, t.out.retBit)) (exec (.txPut ⟨0xFD, 0xDE, 0xDF, 0xFF, 0xFF, 0x8F, 0xFF, 0xFF⟩) stB) =
        some (⟨true, ⟨0xFD, 0xDE, 0xDF, 0xFF, 0xFF, 0x8F, 0xFF, 0xFF⟩⟩, true) ∧
      seen (fun t => (t.txm, t.out.retBit))
          (exec (.txPut ⟨0xFD, 0xDE, 0xDF, 0xFF, 0xFF, 0x8F, 0xFF, 0xFF⟩) (stFull .never)) =
        some ((stFull .never).txm, false) ∧
      seen (fun t => t.txm.data) (exec (.transmit { Frame.zero with
          messageSource := 5, messageDest := 3, messageType := 1, writeBit := true }) stB) =
        some ⟨0xFA, 0xFC, 0xE7, 0xFF, 0xFF, 0xFF, 0xFF, 0xFF⟩ := by decide

/-- V-MB-3. -/
theorem test_exec_txTake :
    answer (exec .txTake (stFull .never)) = some (true, 0xFFFFFFFFFFE7FCFA) ∧
      answer (exec .txTake stB) = some (false, 0) := by decide

/-- V-MB-5, V-MB-7 and V-MB-8. -/
theorem test_exec_spPublish_stateTake :
    answer (exec .stateTake stB) = some (false, 0) ∧
      answer (exec .stateTake { stB with spm := ⟨true, ⟨⟨1, 127, 7, 7, 1, 1, 1⟩, 1, 63⟩⟩ }) = some (true, 0xFFFFFF) ∧
      answer (exec .stateTake { stB with spm := ⟨true, ⟨⟨1, 22, 3, 0, 0, 0, 0⟩, 0, 22⟩⟩ }) = some (true, 0x58032D) ∧
      seen (fun t => t.spm) (exec (.spPublish ⟨⟨1, 22, 3, 0, 0, 0, 0⟩, 0, 22⟩) stB) =
        some ⟨true, ⟨⟨1, 22, 3, 0, 0, 0, 0⟩, 0, 22⟩⟩ := by decide

/-- Each getter answers its own field of a CurrentState whose fields all differ (43_protocol_fsm.md R171 to R178). -/
theorem test_exec_getters :
    let s := { stB with cs := ⟨⟨1, 22, 3, 4, 5, 6, 7⟩, 8, 9⟩ }
    answer (exec .getOnoff s) = some (true, 1) ∧ answer (exec .getTemp s) = some (true, 22) ∧
      answer (exec .getMode s) = some (true, 3) ∧ answer (exec .getFanmode s) = some (true, 4) ∧
      answer (exec .getEconomy s) = some (true, 5) ∧ answer (exec .getSwingmode s) = some (true, 6) ∧
      answer (exec .getSwingstep s) = some (true, 7) ∧ answer (exec .getControllertemp s) = some (true, 9) := by
  decide

/-- V-BND-1, V-BND-3, V-BND-4. -/
theorem test_exec_isBound :
    let s := { stB with fsm := { stB.fsm with lastRxValid := true, lastRxTime := 1000 } }
    answer (exec (.isBound 5000) stB) = some (true, 0) ∧ answer (exec (.isBound 2000) s) = some (true, 1) ∧
      answer (exec (.isBound 2001) s) = some (true, 0) := by decide

/-- V-HOST-18 and V-HOST-19: each reserved selector answers `rsp_present = 0` and `rsp_data = 0`. -/
theorem test_exec_reserved_selectors :
    ∀ i ∈ [Instr.reservedOpsel00, .reservedOpsel16, .reservedOpsel17, .reservedOpsel18, .reservedOpsel19,
        .reservedOpsel1A, .reservedOpsel1B, .reservedOpsel1C, .reservedOpsel1D, .reservedOpsel1E, .reservedOpsel1F],
      answer (exec i stPending) = some (false, 0) := by decide

/-! ### Frames -/

/-- V-FSM-1. -/
theorem test_exec_rxStatusLoginreq :
    sent (exec (.rxStatusLoginreq frLoginreq 1000) stB) = some (true, ⟨0x02, 0x21, 0x20, 0, 0, 0x70, 0, 0⟩) ∧
      seen (fun t => (t.fsm.lastRxValid, t.fsm.lastRxTime)) (exec (.rxStatusLoginreq frLoginreq 1000) stB) =
        some (true, 1000) := by decide

/-- V-FSM-7. -/
theorem test_exec_rxStatusLoginreqSecondary :
    sent (exec (.rxStatusLoginreqSecondary frLoginreqC 50) stC) =
      some (true, ⟨0x03, 0x81, 0x10, 0x07, 0x16, 0x20, 0x01, 0x00⟩) := by decide

/-- V-FSM-9, through the entry point. -/
theorem test_exec_rxStatusExchange :
    let s := { stB with pu := stPending.pu }
    sent (exec (.onFrameReceived wireExchange 0) s) =
        some (true, ⟨0x02, 0x81, 0x18, 0x07, 0x18, 0xA0, 0x01, 0x00⟩) ∧
      seen (fun t => (t.cs, t.pu.dirty, packSnapshot Layout.default t.spm.data))
          (exec (.rxStatusExchange frExchange 0) s) = some (⟨⟨1, 24, 3, 0, 0, 0, 0⟩, 0, 0⟩, 0, 0x331) := by decide

/-- P2, step 4: the reply is dropped under the three policies. -/
theorem test_exec_exchange_dropped :
    seen (fun t => (t.cs.temperature, t.pu.dirty, t.spm.full)) (exec (.rxStatusExchange frExchange 0)
        (stFull .afterHandoff)) = some (24, 2, false) ∧
      seen (fun t => (t.cs.temperature, t.pu.dirty, t.spm.full)) (exec (.rxStatusExchange frExchange 0)
        (stFull .onMerge)) = some (24, 0, true) ∧
      seen (fun t => (t.cs.temperature, t.pu.dirty, t.spm.full)) (exec (.rxStatusExchange frExchange 0)
        (stFull .never)) = some (24, 2, false) := by decide

/-- V-FSM-12: the reply once a secondary has been seen. -/
theorem test_exec_exchange_seen_secondary :
    sent (exec (.rxStatusExchange frExchange 5)
        { stB with pu := stPending.pu, fsm := { stB.fsm with seenSecondary := true } }) =
      some (true, ⟨0x02, 0xA3, 0x18, 0x07, 0x18, 0xA0, 0x00, 0x00⟩) := by decide

/-- V-FSM-14: the acknowledgement carries no economy mode and no ambient temperature. -/
theorem test_exec_rxLogin :
    let s := { stB with cs := ⟨⟨1, 22, 3, 2, 1, 1, 1⟩, 1, 21⟩ }
    sent (exec (.rxLogin { Frame.zero with
        messageSource := 9, broadcast := true, messageDest := 2, loginBit := true, messageType := 2 } 5) s) =
      some (true, ⟨0x02, 0xA9, 0x10, 0xA7, 0x16, 0x06, 0x01, 0x00⟩) ∧
    seen (fun t => t.fsm.probePending) (exec (.rxLogin frLogin 5) s) = some true := by decide

/-- V-FSM-15, the probe step. -/
theorem test_exec_rxLoginProbe :
    sent (exec .rxLoginProbe { stB with fsm := { stB.fsm with probePending := true } }) =
      some (true, ⟨0x02, 0x03, 0x20, 0, 0, 0, 0, 0⟩) := by decide

/-- V-FSM-16 and V-FSM-17. -/
theorem test_exec_rxError_rxReserved :
    seen (fun t => (t.fsm.lastRxTime, t.cs.acError, t.txm.full)) (exec (.rxError frError 500) stB) =
        some (500, 0, false) ∧
      seen (fun t => (t.fsm.lastRxTime, t.txm.full)) (exec (.rxReserved frReserved 700) stB) = some (700, false) := by
  decide

/-- V-FSM-18 and V-FSM-21. -/
theorem test_exec_rxToSecondary_rxIgnored :
    seen (fun t => (t.cs.controllerTemp, t.fsm.seenSecondary, t.fsm.lastRxValid))
        (exec (.rxToSecondary frToSecondary 100) stB) = some (22, true, false) ∧
      seen (fun t => (t.cs, t.fsm, t.txm, t.spm)) (exec (.rxIgnored frIgnored 900) stB) =
        some (stB.cs, stB.fsm, stB.txm, stB.spm) := by decide

/-! ### Witnesses: the hypotheses of the statements are met together -/

/-- An explicitly addressed frame with (RT1) and a broadcast frame with (RT2), values at their maximum. -/
theorem test_witness_DecodingAnEncodedFrameGivesItBack :
    Layout.default.wf = true ∧
      (∀ f ∈ [{ frExchange with temperature := 127, updateMagic := 15, controllerTemp := 63 },
          { frLoginreq with temperature := 127 }],
        f.fits Layout.default = true ∧ (f.broadcast = false → f.loginBit = f.messageDest.getLsbD 5) ∧
          (f.broadcast = true → f.messageDest = 2#7)) := by decide

theorem test_witness_EncodingADecodedBufferKeepsTheCoveredBits : Layout.default.wf = true := by decide

/-- V-DEC-2 and V-DEC-6, and two broadcast frames with different destination bits. -/
theorem test_witness_UncoveredBitsDoNotReachTheFrame :
    Layout.default.wf = true ∧
      andBuf ⟨0, 0, 0xC7, 0, 0, 0x09, 0x80, 0xFF⟩ (coverOf Layout.default ⟨0, 0, 0xC7, 0, 0, 0x09, 0x80, 0xFF⟩) =
        andBuf Buf.zero (coverOf Layout.default Buf.zero) ∧
      andBuf ⟨0x81, 0x5F, 0, 0, 0, 0, 0, 0⟩ (coverOf Layout.default ⟨0x81, 0x5F, 0, 0, 0, 0, 0, 0⟩) =
        andBuf ⟨0x81, 0, 0, 0, 0, 0, 0, 0⟩ (coverOf Layout.default ⟨0x81, 0, 0, 0, 0, 0, 0, 0⟩) := by decide

theorem test_witness_BroadcastFrameDecodesToTheOwnAddress :
    (⟨0x80, 0x7F, 0, 0, 0, 0, 0, 0⟩ : Buf).b0.getLsbD 7 = true := by decide

theorem test_witness_HeaderFieldsStandAtTheirFixedPositions :
    (decodeFrame Layout.default 2 ⟨0x7F, 0xFF, 0, 0, 0, 0, 0, 0⟩).broadcast = false := by decide

theorem test_witness_LoginBitAndDestinationBitFiveShareOneWireBit :
    Layout.default.wf = true ∧
      (decodeFrame Layout.default 2 ⟨0x01, 0x22, 0, 0, 0, 0, 0, 0⟩).broadcast = false := by decide

theorem test_witness_EncodeWritesEveryFieldThroughItsOwnRow : stB.cfg.layout.wf = true := by decide

/-- Each field's largest value. -/
theorem test_witness_SetterStagesItsFieldAlone :
    ∀ q ∈ [(UField.onOff, 1), (.temperature, 127), (.acMode, 7), (.fanMode, 7), (.economyMode, 1), (.swingMode, 1),
        (.swingStep, (1 : Byte))], q.2.toNat < 2 ^ (stB.cfg.layout.slot q.1).width := by decide

/-- Each field's smallest value that does not fit. -/
theorem test_witness_ValueWiderThanItsFieldIsRefused :
    (∀ q ∈ [(UField.onOff, 2), (.temperature, 128), (.acMode, 8), (.fanMode, 8), (.economyMode, 2), (.swingMode, 2),
        (.swingStep, (2 : Byte))],
      2 ^ (stB.cfg.layout.slot q.1).width ≤ q.2.toNat ∧
        2 ^ (stB.cfg.layout.slot q.1).width ≤ ((Setpoints.zero.set q.2 q.1).get q.1).toNat) ∧
      CurrentState.fits stB.cfg.layout { CurrentState.zero with controllerTemp := 64 } = false := by decide

theorem test_witness_SettersCommuteAndTheLastOneWins :
    (∃ t u t' u', exec (setterOf 24 .temperature) stB = .next t ∧ exec (setterOf 4 .acMode) t = .next u ∧
        exec (setterOf 4 .acMode) stB = .next t' ∧ exec (setterOf 24 .temperature) t' = .next u' ∧ u = u') ∧
      ∃ t u, exec (setterOf 22 .temperature) stB = .next t ∧ exec (setterOf 24 .temperature) t = .next u :=
  ⟨⟨_, _, _, _, by rfl, by rfl, by rfl, by rfl, by decide⟩, _, _, by rfl, by rfl⟩

/-- Desired state `{temp=127 mode=3}` against CurrentState `{on=1 temp=22 mode=3}`: fields that differ and fields that do
not. -/
theorem test_witness_ApplyStateStagesExactlyTheDifferingFields :
    stPending.cfg.dirtyBit.wf = true ∧
      (∀ g ∈ [UField.onOff, .temperature, .acMode, .fanMode, .economyMode, .swingMode, .swingStep],
        ((⟨0, 127, 3, 0, 0, 0, 0⟩ : Setpoints).get g).toNat < 2 ^ (stPending.cfg.layout.slot g).width) ∧
      (⟨0, 127, 3, 0, 0, 0, 0⟩ : Setpoints).get .acMode = stPending.cs.toSetpoints.get .acMode ∧
      (⟨0, 127, 3, 0, 0, 0, 0⟩ : Setpoints).get .temperature ≠ stPending.cs.toSetpoints.get .temperature := by decide

theorem test_witness_DrainCompletesAndMayBeRepeated : stB.pu.dirty = 0 ∧ stPending.pu.dirty ≠ 0 := by decide

theorem test_witness_PutIntoAFullSlotDropsTheNewFrame :
    stB.txm.full = false ∧ (stFull .never).txm.full = true := by decide

theorem test_witness_PublishingOverwritesTheStateSlot :
    CurrentState.fits stB.cfg.layout ⟨⟨1, 127, 7, 7, 1, 1, 1⟩, 1, 63⟩ = true := by decide

theorem test_witness_SnapshotFieldsStandAtTheirPlaces :
    CurrentState.fits Layout.default ⟨⟨1, 127, 7, 7, 1, 1, 1⟩, 1, 63⟩ = true := by decide

/-- The slot filled by an exchange, which publishes too; the slot emptied; the state slot emptied. -/
theorem test_witness_MailboxesChangeOnlyByTheirOwnOperations :
    (∃ t, step (asked stB (.rx wireExchange 0)) = .next t ∧ stB.txm.full = false ∧ t.txm.full = true ∧
        t.txm.data ≠ stB.txm.data ∧ t.spm ≠ stB.spm) ∧
      (∃ t, step (asked (stFull .never) (.host 0x2A0000 0)) = .next t ∧ t.txm.full = false) ∧
      (∃ t, step (asked { stB with spm := ⟨true, CurrentState.zero⟩ } (.host 0x280000 0)) = .next t ∧
        t.spm ≠ ⟨true, CurrentState.zero⟩) ∧
      NoReset (asked stB (.rx wireExchange 0)) ∧ NoReset (asked (stFull .never) (.host 0x2A0000 0)) ∧
      NoReset (asked { stB with spm := ⟨true, CurrentState.zero⟩ } (.host 0x280000 0)) :=
  ⟨⟨_, by rfl, by decide, by decide, by decide, by decide⟩, ⟨_, by rfl, by decide⟩, ⟨_, by rfl, by decide⟩,
    (fun _ _ h => by cases h), (fun _ _ h => by cases h), (fun _ _ h => by cases h)⟩

theorem test_witness_IsBoundTestsTheLivenessPair : stB.env.clockSeen ≤ 0 := by decide

/-- The last tick of the window and the first after it. -/
theorem test_witness_BoundForExactlyOneSecondAfterAFrameToSelf :
    (∃ t, exec (.onFrameReceived wireExchange 1000) stB = .next t) ∧
      addressedToMe stB.cfg (receivedFrame stB.cfg wireExchange) = true ∧ 1000 ≤ 2000 ∧ 1000 ≤ 2001 :=
  ⟨⟨_, by rfl⟩, by decide, by decide, by decide⟩

/-- `CFG_C` has the secondary's address as its own. -/
theorem test_witness_AddressFilterReadsTheBroadcastBitThenTheDestination : cfgC.addrSelf = cfgC.addrSecondary := by
  decide

/-- Frames to this controller of every class, and the two others. -/
theorem test_witness_FrameClassesAreWordPatterns :
    cfgB.typeCode = TypeCode.default ∧
      (∀ f ∈ [frLoginreq, frExchange, frLogin, frError, frReserved], f.messageDest = cfgB.addrSelf) ∧
      frToSecondary.messageDest = cfgB.addrSecondary ∧ frToSecondary.messageDest ≠ cfgB.addrSelf ∧
      frIgnored.messageDest ≠ cfgB.addrSelf ∧ frIgnored.messageDest ≠ cfgB.addrSecondary := by decide

/-- Every clause has a frame: the wire bytes are those of test_decode_frames. -/
theorem test_witness_EveryEnabledFrameIsProcessedByItsClass :
    stB.cfg.wf = true ∧ stB.fsm.probePending = false ∧ stB.env.clockSeen ≤ 0 ∧
      stC.cfg.wf = true ∧ stC.fsm.probePending = false ∧ stC.env.clockSeen ≤ 0 ∧
      (frLoginreq.messageDest = stB.cfg.addrSelf ∧ frLoginreq.messageType = stB.cfg.typeCode.status ∧
        frLoginreq.loginBit = true ∧ stB.cfg.role = .primary) ∧
      (frLoginreqC.messageDest = stC.cfg.addrSelf ∧ frLoginreqC.messageType = stC.cfg.typeCode.status ∧
        frLoginreqC.loginBit = true ∧ stC.cfg.role = .secondary) ∧
      (frExchange.messageDest = stB.cfg.addrSelf ∧ frExchange.messageType = stB.cfg.typeCode.status ∧
        frExchange.loginBit = false) ∧
      (frLogin.messageDest = stB.cfg.addrSelf ∧ frLogin.messageType = stB.cfg.typeCode.login) ∧
      (frError.messageDest = stB.cfg.addrSelf ∧ frError.messageType = stB.cfg.typeCode.error) ∧
      (frReserved.messageDest = stB.cfg.addrSelf ∧ frReserved.messageType = stB.cfg.typeCode.reserved) := by decide

theorem test_witness_PrimaryAnswersALoginRequestWithLogin :
    stB.fsm.probePending = false ∧ stB.env.clockSeen ≤ 0 ∧ frLoginreq.ofClass stB.cfg .statusLoginreq = true := by
  decide

theorem test_witness_SecondaryAnswersALoginRequestWithStatus :
    stC.fsm.probePending = false ∧ stC.env.clockSeen ≤ 0 ∧
      frLoginreqC.ofClass stC.cfg .statusLoginreqSecondary = true := by decide

theorem test_witness_ExchangeMergesRepliesAndPublishes :
    stPending.fsm.probePending = false ∧ stPending.env.clockSeen ≤ 0 ∧
      frExchange.ofClass stPending.cfg .statusExchange = true := by decide

theorem test_witness_LoginIsAcknowledgedFromCurrentState :
    stPending.fsm.probePending = false ∧ stPending.env.clockSeen ≤ 0 ∧
      frLogin.ofClass stPending.cfg .login = true := by decide

/-- `CFG_B` with a probe pending. -/
def stProbe : State := { stB with fsm := { stB.fsm with probePending := true } }

theorem test_witness_ProbeSendsLoginToTheSecondaryAddress :
    stProbe.fsm.probePending = true ∧ stProbe.cfg.role = .primary := by decide

theorem test_witness_ErrorAndReservedFramesOnlyRefreshLiveness :
    stB.fsm.probePending = false ∧ stB.env.clockSeen ≤ 0 ∧ frError.ofClass stB.cfg .error = true ∧
      frReserved.ofClass stB.cfg .reserved = true := by decide

theorem test_witness_OverheardFramesAreAdoptedAndOthersIgnored :
    stB.fsm.probePending = false ∧ stB.env.clockSeen ≤ 0 ∧ frToSecondary.ofClass stB.cfg .toSecondary = true ∧
      frIgnored.ofClass stB.cfg .ignored = true := by decide

/-- A probe pending; a clock one tick behind; a frame of another class; a probe that is not enabled, for either
reason. -/
theorem test_witness_OperationsNotEnabledAreRefusedByName :
    stProbe.fsm.probePending = true ∧
      (stB.fsm.probePending = false ∧ 0 < (stB.sampleClock 1).env.clockSeen ∧
        (stB.sampleClock 1).fsm.probePending = false) ∧
      (stB.env.clockSeen ≤ 0 ∧ frIgnored.ofClass stB.cfg .login = false) ∧ stC.cfg.role = .secondary := by decide

theorem test_witness_LivenessIsWrittenByExactlyTheFramesToSelf :
    (∃ t, exec (.onFrameReceived wireExchange 0) stB = .next t) ∧
      (∃ t, exec (.onFrameReceived ⟨0xFE, 0xFA, 0xEF, 0xF8, 0xE9, 0xFF, 0xFF, 0xFF⟩ 0) stB = .next t) ∧
      addressedToMe stB.cfg (receivedFrame stB.cfg wireExchange) = true ∧
      addressedToMe stB.cfg (receivedFrame stB.cfg ⟨0xFE, 0xFA, 0xEF, 0xF8, 0xE9, 0xFF, 0xFF, 0xFF⟩) = false :=
  ⟨⟨_, by rfl⟩, ⟨_, by rfl⟩, by decide, by decide⟩

/-- V-FSM-18's frame in one step; and a step with the flag set already. -/
theorem test_witness_SecondaryFlagIsSetOnlyByAnOverheardFrame :
    (∃ t, step (asked stB (.rx ⟨0xFE, 0xFC, 0xEF, 0xFF, 0xFF, 0xFF, 0xD3, 0xFF⟩ 100)) = .next t ∧
        stB.fsm.seenSecondary = false ∧ t.fsm.seenSecondary = true) ∧
      NoReset (asked stB (.rx ⟨0xFE, 0xFC, 0xEF, 0xFF, 0xFF, 0xFF, 0xD3, 0xFF⟩ 100)) ∧
      (∃ t, step { stB with fsm := { stB.fsm with seenSecondary := true } } = .next t) ∧
      NoReset { stB with fsm := { stB.fsm with seenSecondary := true } } :=
  ⟨⟨_, by rfl, by decide, by decide⟩, (fun _ _ h => by cases h), ⟨_, by rfl⟩, (fun _ _ h => by cases h)⟩

theorem test_witness_CurrentStateIsWrittenByFramesOnly :
    (∃ t, step (asked stB (.rx wireExchange 0)) = .next t ∧ t.cs ≠ stB.cs) ∧
      (∃ t, step (asked stB (.rx ⟨0xFE, 0xFC, 0xEF, 0xFF, 0xFF, 0xFF, 0xD3, 0xFF⟩ 100)) = .next t ∧ t.cs ≠ stB.cs) ∧
      NoReset (asked stB (.rx wireExchange 0)) ∧
      NoReset (asked stB (.rx ⟨0xFE, 0xFC, 0xEF, 0xFF, 0xFF, 0xFF, 0xD3, 0xFF⟩ 100)) :=
  ⟨⟨_, by rfl, by decide⟩, ⟨_, by rfl, by decide⟩, (fun _ _ h => by cases h), (fun _ _ h => by cases h)⟩

theorem test_witness_CallerOperationsLeaveTheProtocolState :
    contextOf (.setTemp 24) = some .caller ∧ (∃ t, exec (.setTemp 24) stB = .next t) ∧ stB.lock.held = false :=
  ⟨by decide, ⟨_, by rfl⟩, by decide⟩

/-- V-ATOM-1: temperature is staged, then mode, then the exchange runs; the step of the second setter; and one step that
ends each of the three exceptions of the last clause. -/
theorem test_witness_ExchangeSeesEverySetterBeforeIt :
    (∃ t u, exec (setterOf 127 .temperature) stB = .next t ∧ exec (.rxStatusExchange frExchange 0) t = .next u ∧
        t.pu.dirty.getLsbD (t.cfg.dirtyBit.bit .temperature).val = true) ∧
      stPending.pu.dirty.getLsbD (stPending.cfg.dirtyBit.bit .temperature).val = true ∧
      (∀ r ∈ [Request.host 0x060004 0, .rx wireExchange 0, .host 0x040016 0, .host 0x100335 0],
        ((asked stPending r).env.requests = [r] ∧ (seen (fun t => t.pu.dirty.getLsbD 1) (step (asked stPending r))).isSome)) ∧
      NoReset (asked stPending (.host 0x060004 0)) ∧ NoReset (asked stPending (.rx wireExchange 0)) ∧
      NoReset (asked stPending (.host 0x040016 0)) ∧ NoReset (asked stPending (.host 0x100335 0)) :=
  ⟨⟨_, _, by rfl, by rfl, by decide⟩, by decide, by decide, (fun _ _ h => by cases h), (fun _ _ h => by cases h),
    (fun _ _ h => by cases h), (fun _ _ h => by cases h)⟩

theorem test_witness_LoginReplyIsReadWithDestinationBitFiveSet :
    stB.cfg.wf = true ∧ stB.txm.full = false ∧ ∃ t, exec (.rxStatusLoginreq frLoginreq 1000) stB = .next t :=
  ⟨by decide, by decide, _, by rfl⟩

/-- An own address with bit 5 set and one with it clear. -/
theorem test_witness_ExplicitlyAddressedStatusClassIsFixedByTheOwnAddress :
    (⟨0x01, 0x20, 0x10, 0, 0, 0, 0, 0⟩ : Buf).b0.getLsbD 7 = false ∧ cfgA.addrSelf.getLsbD 5 = true ∧
      cfgB.addrSelf.getLsbD 5 = false := by decide

theorem test_witness_DroppedReplyLeavesOptimisticCurrentState :
    (∀ p ∈ [ClearPolicy.afterHandoff, .onMerge, .never], (stFull p).txm.full = true ∧ (stFull p).pu.dirty ≠ 0) ∧
      (stFull .never).pu.dirty.getLsbD ((stFull .never).cfg.dirtyBit.bit .temperature).val = true ∧
      (∃ t, exec (.rxStatusExchange frExchange 0) (stFull .afterHandoff) = .next t) ∧
      (∃ t, exec (.rxStatusExchange frExchange 0) (stFull .onMerge) = .next t) ∧
      ∃ t, exec (.rxStatusExchange frExchange 0) (stFull .never) = .next t :=
  ⟨by decide, by decide, ⟨_, by rfl⟩, ⟨_, by rfl⟩, ⟨_, by rfl⟩⟩

theorem test_witness_NeverPolicyKeepsUpdatesPendingForEver :
    NoReset (asked (stFull .never) (.rx wireExchange 0)) ∧ (stFull .never).cfg.clearPolicy = .never ∧
      (stFull .never).pu.dirty ≠ 0 ∧ ∃ t, step (asked (stFull .never) (.rx wireExchange 0)) = .next t :=
  ⟨(fun _ _ h => by cases h), by decide, by decide, _, by rfl⟩

/-- With the slot empty and with it full. -/
theorem test_witness_ProbeIsDroppedUnlessTheSlotIsTaken :
    stB.cfg.role = .primary ∧ (∃ t, exec (.rxLogin frLogin 0) stB = .next t) ∧
      (stFull .never).cfg.role = .primary ∧ (stFull .never).txm.full = true ∧
      ∃ t, exec (.rxLogin frLogin 0) (stFull .never) = .next t :=
  ⟨by decide, ⟨_, by rfl⟩, by decide, by decide, _, by rfl⟩

theorem test_witness_StepRunsTheDecodedOperation :
    stB.cfg.wf = true ∧ (asked stB (.host 0x040018 0)).env.requests = [.host 0x040018 0] ∧
      decode stB.cfg (.host 0x040018 0) = .ok (.setTemp 24) := ⟨by decide, by rfl, by rfl⟩

theorem test_witness_IdleBlockKeepsAllItsState : stB.env.requests = [] := by decide

theorem test_witness_ResetGivesEveryFieldItsResetValue :
    (asked stPending (.reset cfgC)).env.requests = .reset cfgC :: [] := by decide

theorem test_witness_ConfigurationIsConstantUntilReset :
    (∃ t, exec (.setTemp 24) stB = .next t) ∧
      NoReset (asked stB (.host 0x040018 0)) ∧ ∃ t, step (asked stB (.host 0x040018 0)) = .next t :=
  ⟨⟨_, by rfl⟩, (fun _ _ h => by cases h), _, by rfl⟩

/-- Requests enabled and not enabled: a clock at and below the last sample, a probe not pending and pending, a frame with a
value wider than its field. -/
theorem test_witness_StepGoesOnExactlyForEnabledRequests :
    stB.cfg.wf = true ∧ enabled stB (.host 0x3FFFFF 0) = true ∧
      enabled stB (.encIn { frLogin with controllerTemp := 64 }) = true ∧
      enabled (stB.sampleClock 5) (.host 0x220000 5) = true ∧ enabled (stB.sampleClock 5) (.host 0x220000 4) = false ∧
      enabled (stB.sampleClock 5) (.rx wireExchange 5) = true ∧
      enabled (stB.sampleClock 5) (.rx wireExchange 4) = false ∧
      enabled stB .probe = false ∧ enabled stProbe .probe = true ∧ enabled stProbe (.rx wireExchange 5) = false ∧
      (asked stB .probe).env.requests = .probe :: [] := by decide

theorem test_witness_StepRefusesOnlyBadConfigurations :
    (asked stB .probe).env.requests = .probe :: [] ∧ (∀ c, Request.probe ≠ .reset c) ∧
      Cfg.wf { cfgB with ticksPerSecond := 0 } = false ∧ stB.cfg.wf = true :=
  ⟨by decide, fun _ h => (by cases h), by decide, by decide⟩

/-- A good state with a reset and an exchange to come, and its next state. -/
theorem test_witness_EveryStepKeepsTheStateGood :
    Good { stPending with env := { requests := [.rx wireExchange 0, .reset cfgC], clockSeen := 0 } } ∧
      ∃ t, step { stPending with env := { requests := [.rx wireExchange 0, .reset cfgC], clockSeen := 0 } } = .next t :=
  ⟨{ cfg_wf := by decide, cs_fits := by decide, shadows_fit := by decide, snapshot_fits := by decide
     region_free := by decide, probe_primary := by decide, stamp_seen := by decide
     straps_wf := by simp only [List.mem_cons, List.not_mem_nil]; rintro c (h | h | h) <;> cases h; decide },
    _, by rfl⟩

theorem test_witness_ResetStateIsGood : cfgC.wf = true := by decide

/-- A well-formed operation at each port. -/
theorem test_witness_DecodingAnEncodedOperationGivesItBack :
    cfgB.wf = true ∧
      (∀ i ∈ [Instr.rxStatusExchange frExchange 7, .setTemp 127, .applyState ⟨1, 127, 7, 7, 1, 1, 1⟩, .isBound 9,
          .rxLoginProbe, .decode Buf.zero, .encode frExchange, .toWire Buf.zero, .fromWire Buf.zero],
        i.wf cfgB = true ∧ (encode cfgB i).isSome = true) := by decide

theorem test_witness_DecodedOperationsAreWellFormed :
    cfgB.wf = true ∧ decode cfgB (.host 0x0400FF 0) = .ok (.setTemp 127) := ⟨by decide, by rfl⟩

/-- A request that is no reset; two words that differ in a bit above the port's 22 wires alone. -/
theorem test_witness_DecoderRejectsOnlyWhatCannotStandAtAPort :
    (∀ straps, Request.probe ≠ .reset straps) ∧
      (0x2A0000#64).toNat % 2 ^ (5 + argWidth cfgB.layout) = (0x6A0000#64).toNat % 2 ^ (5 + argWidth cfgB.layout) :=
  ⟨fun _ h => (by cases h), by decide⟩

theorem test_witness_HostCommandWordSelectsTheCommand :
    cfgB.layout = Layout.default ∧ 0x1FFFF < 2 ^ 17 := by decide

end Sys2Proof.Tests
end

/-! ## The configuration through a step (00_scope.md section 3, R1, R2) -/

namespace Sys2Proof.Machine

open Sys2Proof.Safety

/-! ### The shared operations leave the configuration -/

@[simp] theorem State.txPut_cfg (s : State) (w : Buf) : (s.txPut w).1.cfg = s.cfg := by
  rw [txPut_state]

@[simp] theorem State.transmit_cfg (s : State) (r : Frame) : (s.transmit r).1.cfg = s.cfg := by
  rw [transmit_state]

@[simp] theorem State.stageAll_cfg (s : State) (d : Setpoints) : (s.stageAll d).cfg = s.cfg := by
  rw [stageAll_frame]

@[simp] theorem State.merge_cfg (s : State) (f : Frame) : (s.merge f).cfg = s.cfg := by
  rw [merge_state]

@[simp] theorem State.publishIfClean_cfg (s : State) : s.publishIfClean.cfg = s.cfg := by
  rw [publishIfClean_state]

/-! ### The operations leave the configuration -/

/-- An RX class keeps the configuration when its body does. -/
theorem onFrame_cfg {k : FrameClass} {f : Frame} {now : Nat} {s t : State} {body : State → State}
    (hbody : ∀ u : State, (body u).cfg = u.cfg) (h : onFrame k f now s body = .next t) : t.cfg = s.cfg := by
  obtain ⟨-, -, -, rfl⟩ := onFrame_cases h
  rw [hbody, State.sampleClock_cfg]

theorem exec_classInstr_cfg (k : FrameClass) (f : Frame) (now : Nat) {s t : State}
    (h : exec (classInstr k f now) s = .next t) : t.cfg = s.cfg := by
  cases k with simp only [classInstr, exec] at h
  | statusLoginreq | statusLoginreqSecondary | statusExchange => exact onFrame_cfg (fun u => by simp) h
  | error | reserved | toSecondary | ignored => exact onFrame_cfg (fun _ => by rfl) h
  | login => exact onFrame_cfg (fun u => by dsimp only; split <;> simp) h

theorem setField_cfg {g : UField} {v : Byte} {s t : State} (h : setField g v s = .next t) : t.cfg = s.cfg := by
  obtain ⟨-, rfl⟩ := setField_cases h
  rfl

/-- No operation writes a parameter (00_scope.md R1). The setters and the RX classes go through what they share; the
operations that answer in one way only change a register other than CFG; the last ones do so in each branch. -/
theorem exec_cfg {i : Instr} {s t : State} (h : exec i s = .next t) : t.cfg = s.cfg := by
  cases i with
  | rxStatusLoginreq f now => exact exec_classInstr_cfg .statusLoginreq f now h
  | rxStatusLoginreqSecondary f now => exact exec_classInstr_cfg .statusLoginreqSecondary f now h
  | rxStatusExchange f now => exact exec_classInstr_cfg .statusExchange f now h
  | rxLogin f now => exact exec_classInstr_cfg .login f now h
  | rxError f now => exact exec_classInstr_cfg .error f now h
  | rxReserved f now => exact exec_classInstr_cfg .reserved f now h
  | rxToSecondary f now => exact exec_classInstr_cfg .toSecondary f now h
  | rxIgnored f now => exact exec_classInstr_cfg .ignored f now h
  | onFrameReceived raw now =>
    rw [execOnFrameReceived_class] at h
    exact exec_classInstr_cfg _ _ _ h
  | setOnoff v | setTemp v | setMode v | setFanmode v | setEconomy v | setSwingmode v | setSwingstep v =>
    exact setField_cfg h
  | getOnoff | getTemp | getMode | getFanmode | getEconomy | getSwingmode | getSwingstep | getControllertemp
  | updatePending | getUpdateFields
  | reservedOpsel00 | reservedOpsel16 | reservedOpsel17 | reservedOpsel18 | reservedOpsel19 | reservedOpsel1A
  | reservedOpsel1B | reservedOpsel1C | reservedOpsel1D | reservedOpsel1E | reservedOpsel1F
  | decode b | encode f | toWire b | fromWire w | hasPending | drainInto r | clearDirty sent =>
    obtain rfl := Host.Outcome.next.inj h
    rfl
  | transmit r | txPut w =>
    obtain rfl := Host.Outcome.next.inj h
    simp
  | rxLoginProbe | applyState d | isBound now | stateTake | txTake | spPublish p =>
    simp only [exec, execRxLoginProbe, execApplyState, execIsBound, execStateTake, execTxTake, execSpPublish] at h
    split at h <;> cases h <;> simp

/-- Over a step that is not a reset the straps stay as sampled (00_scope.md R1). -/
theorem step_cfg {s t : State} (hs : NoReset s) (h : step s = .next t) : t.cfg = s.cfg := by
  obtain ⟨-, rfl⟩ | ⟨c, rest, hr, -⟩ | ⟨r, rest, i, -, -, -, hi⟩ := step_cases h
  · rfl
  · exact absurd hr (hs c rest)
  · rw [exec_cfg hi, State.withRequests_cfg]

/-- Settles O50: the operations one by one, then the step through `step_cases`. -/
theorem configurationIsConstantUntilReset : Obligations.ConfigurationIsConstantUntilReset :=
  ⟨fun _ _ _ h => exec_cfg h, fun _ _ hs h => step_cfg hs h⟩

/-! ### A step on a request other than a reset -/

/-- Every request but a reset decodes, whatever the configuration (30_encoding.md R73). -/
theorem exists_decode_eq_ok (c : Cfg) {r : Request} (h : ∀ straps, r ≠ .reset straps) :
    ∃ i, decode c r = .ok i := by
  cases hd : decode c r with
  | ok i => exact ⟨i, rfl⟩
  | error e =>
    obtain ⟨straps⟩ := e
    exact absurd (decode_reset hd) (h straps)

/-- All a step does with a request that decodes: its operation runs, but for a configuration that breaks R2. -/
theorem step_of_decode {s : State} {r : Request} {rest : List Request} {i : Instr}
    (hr : s.env.requests = r :: rest) (hd : decode s.cfg r = .ok i) :
    step s = if s.cfg.wf then exec i (s.withRequests rest) else .refused .badConfig := by
  simp only [step, hr, serve, hd]

/-- Settles O52: the request decodes, and the step's only test is the one of R2. -/
theorem stepRefusesOnlyBadConfigurations : Obligations.StepRefusesOnlyBadConfigurations := by
  intro s r rest hr hreset
  obtain ⟨i, hd⟩ := exists_decode_eq_ok s.cfg hreset
  have hstep := step_of_decode hr hd
  exact ⟨fun hbad => hstep.trans (if_neg (by simp [hbad])), fun hwf => ⟨i, hd, hstep.trans (if_pos hwf)⟩⟩

end Sys2Proof.Machine

/-! ## The registers through a step (10_state.md) -/

/-! ### Widths -/

namespace Sys2Proof

theorem fitsIn_zero (w : Nat) : fitsIn 0 w = true := by
  simp [fitsIn]

/-- The widths of the seven updatable fields, field by field (10_state.md R15). -/
theorem Setpoints.fits_iff (l : Layout) (p : Setpoints) :
    p.fits l = true ↔ ∀ g, fitsIn (p.get g) (l.slot g).width = true := by
  simp only [Setpoints.fits, Bool.and_eq_true]
  constructor
  · rintro ⟨⟨⟨⟨⟨⟨h1, h2⟩, h3⟩, h4⟩, h5⟩, h6⟩, h7⟩ g
    cases g <;> assumption
  · intro h
    exact ⟨⟨⟨⟨⟨⟨h .onOff, h .temperature⟩, h .acMode⟩, h .fanMode⟩, h .economyMode⟩, h .swingMode⟩, h .swingStep⟩

theorem CurrentState.fits_iff (l : Layout) (p : CurrentState) :
    p.fits l = true ↔ p.toSetpoints.fits l = true ∧ fitsIn p.acError l.acError.width = true ∧
      fitsIn p.controllerTemp l.controllerTemp.width = true := by
  simp [CurrentState.fits, and_assoc]

/-- Of a frame whose fields fit, what CurrentState may take fits. -/
theorem Frame.fits_state {l : Layout} {f : Frame} (h : f.fits l = true) :
    f.toSetpoints.fits l = true ∧ fitsIn f.acError l.acError.width = true ∧
      fitsIn f.controllerTemp l.controllerTemp.width = true := by
  simp only [Frame.fits, Bool.and_eq_true] at h
  obtain ⟨⟨⟨⟨hset, -⟩, -⟩, htemp⟩, herror⟩ := h
  exact ⟨hset, herror, htemp⟩

theorem Frame.fits_of_ofClass {c : Cfg} {k : FrameClass} {f : Frame} (h : f.ofClass c k = true) :
    f.fits c.layout = true := by
  simp only [Frame.ofClass, Frame.inbound, Bool.and_eq_true] at h
  obtain ⟨⟨⟨hfits, -⟩, -⟩, -⟩ := h
  exact hfits

theorem Setpoints.zero_fits (l : Layout) : Setpoints.zero.fits l = true :=
  (Setpoints.fits_iff l _).2 fun g => by cases g <;> exact fitsIn_zero _

theorem CurrentState.zero_fits (l : Layout) : CurrentState.zero.fits l = true :=
  (CurrentState.fits_iff l _).2 ⟨Setpoints.zero_fits l, fitsIn_zero _, fitsIn_zero _⟩

end Sys2Proof

namespace Sys2Proof.Machine

open Sys2Proof.Safety

/-! ### Values written into the shadows and CurrentState keep their widths -/

/-- Staging a value that fits keeps the widths of the shadows (42_pending_update.md R120, R121). -/
theorem set_fits {l : Layout} {p : Setpoints} {v : Byte} {g : UField} (hp : p.fits l = true)
    (hv : fitsIn v (l.slot g).width = true) : (p.set v g).fits l = true := by
  rw [Setpoints.fits_iff] at hp ⊢
  intro g'
  by_cases hg : g' = g
  · subst hg
    rw [set_get_self]
    exact hv
  · rw [set_get_ne p v hg]
    exact hp g'

theorem stageIfNew_sh_fits {l : Layout} {s : State} {g : UField} {v : Byte} (hs : s.pu.sh.fits l = true)
    (hv : fitsIn v (l.slot g).width = true) : (s.stageIfNew g v).pu.sh.fits l = true := by
  rw [stageIfNew_state]
  dsimp only
  split
  · exact hs
  · exact set_fits hs hv

/-- The body of APPLY_STATE keeps the widths of the shadows (42_pending_update.md R135). -/
theorem stageAll_sh_fits {l : Layout} {s : State} {d : Setpoints} (hs : s.pu.sh.fits l = true)
    (hd : d.fits l = true) : (s.stageAll d).pu.sh.fits l = true := by
  have hg := (Setpoints.fits_iff l d).1 hd
  have h1 := stageIfNew_sh_fits hs (hg .onOff)
  have h2 := stageIfNew_sh_fits h1 (hg .temperature)
  have h3 := stageIfNew_sh_fits h2 (hg .acMode)
  have h4 := stageIfNew_sh_fits h3 (hg .fanMode)
  have h5 := stageIfNew_sh_fits h4 (hg .economyMode)
  have h6 := stageIfNew_sh_fits h5 (hg .swingMode)
  exact stageIfNew_sh_fits h6 (hg .swingStep)

/-- The drain takes each field from the shadows or from the frame (42_pending_update.md R130). -/
theorem drainSetpoints_fits {l : Layout} {sh own : Setpoints} (d : DirtyBits) (m : BitVec 7)
    (hsh : sh.fits l = true) (hown : own.fits l = true) : (drainSetpoints d m sh own).fits l = true := by
  rw [Setpoints.fits_iff] at *
  intro g
  rw [drainSetpoints_get]
  split
  · exact hsh g
  · exact hown g

/-- The setpoints of the reply to an exchange are the drained ones; the marks and the header leave them
(43_protocol_fsm.md R160). -/
theorem exchangeReply_toSetpoints (s : State) (f : Frame) :
    (s.exchangeReply f).1.toSetpoints = drainSetpoints s.cfg.dirtyBit s.pu.dirty s.pu.sh f.toSetpoints := by
  simp only [State.exchangeReply, markUpdate]
  split <;> rfl

/-! ### What the shared operations leave of the protocol state -/

@[simp] theorem State.transmit_cs (s : State) (r : Frame) : (s.transmit r).1.cs = s.cs := by
  rw [transmit_state]

@[simp] theorem State.transmit_fsm (s : State) (r : Frame) : (s.transmit r).1.fsm = s.fsm := by
  rw [transmit_state]

@[simp] theorem State.merge_fsm (s : State) (f : Frame) : (s.merge f).fsm = s.fsm := by
  rw [merge_state]

@[simp] theorem State.publishIfClean_fsm (s : State) : s.publishIfClean.fsm = s.fsm := by
  rw [publishIfClean_state]

/-! ### What a frame does -/

/-- What the operation of an RX class does once it is enabled and the clock is sampled (43_protocol_fsm.md R157 to
R167). -/
def rxBody (k : FrameClass) (f : Frame) (now : Nat) (s : State) : State :=
  match k with
  | .statusLoginreq => ((s.noteLiveness now).transmit (loginReply s.cfg f)).1
  | .statusLoginreqSecondary => ((s.noteLiveness now).transmit (secondaryReply s.cfg f)).1
  | .statusExchange => ((s.noteLiveness now).merge f).publishIfClean
  | .login =>
    let acked := ((s.noteLiveness now).transmit (loginAck s.cfg s.cs f)).1
    if s.cfg.role = .primary then acked.setProbe true else acked
  | .error => s.noteLiveness now
  | .reserved => s.noteLiveness now
  | .toSecondary => s.adoptSecondary f.controllerTemp
  | .ignored => s

theorem exec_classInstr (k : FrameClass) (f : Frame) (now : Nat) (s : State) :
    exec (classInstr k f now) s = onFrame k f now s (rxBody k f now) := by
  cases k <;> rfl

/-- Only an exchange and an overheard frame write CurrentState (10_state.md R13). -/
theorem rxBody_cs {k : FrameClass} (f : Frame) (now : Nat) (s : State) (hx : k ≠ .statusExchange)
    (ho : k ≠ .toSecondary) : (rxBody k f now s).cs = s.cs := by
  cases k with
  | statusLoginreq | statusLoginreqSecondary => simp [rxBody]
  | statusExchange => exact absurd rfl hx
  | login => dsimp only [rxBody]; split <;> simp
  | toSecondary => exact absurd rfl ho
  | error | reserved | ignored => rfl

/-- Only an overheard frame writes the secondary-seen flag, and it sets it (10_state.md R16). -/
theorem rxBody_seenSecondary (k : FrameClass) (f : Frame) (now : Nat) (s : State) :
    (rxBody k f now s).fsm.seenSecondary = (s.fsm.seenSecondary || decide (k = .toSecondary)) := by
  cases k with
  | statusLoginreq | statusLoginreqSecondary | statusExchange => simp [rxBody]
  | login => dsimp only [rxBody]; split <;> simp
  | error | reserved | toSecondary | ignored => simp [rxBody]

theorem classOf_eq_toSecondary_iff (c : Cfg) (f : Frame) :
    classOf c f = .toSecondary ↔ addressedToSecondary c f = true := by
  unfold classOf
  split
  · next hme =>
    have hno : addressedToSecondary c f = false := by simp [addressedToSecondary, hme]
    rw [hno]
    cases c.typeCode.name f.messageType <;> cases f.loginBit <;> cases c.role <;> simp
  · split <;> simp_all

/-! ### What the other operations do -/

/-- The operation takes an inbound frame. -/
def receivesFrame : Instr → Bool
  | .rxStatusLoginreq _ _ | .rxStatusLoginreqSecondary _ _ | .rxStatusExchange _ _ | .rxLogin _ _ | .rxError _ _
  | .rxReserved _ _ | .rxToSecondary _ _ | .rxIgnored _ _ | .onFrameReceived _ _ => true
  | _ => false

theorem decodeCommand_receivesFrame (l : Layout) (op arg now : Nat) :
    receivesFrame (decodeCommand l op arg now) = false := by
  unfold decodeCommand
  split <;> rfl

/-- Only 8 bytes at the receive port ask for an operation that takes a frame (30_encoding.md R73). -/
theorem decode_receivesFrame {c : Cfg} {r : Request} {i : Instr} (h : decode c r = .ok i)
    (hr : ∀ raw now, r ≠ .rx raw now) : receivesFrame i = false := by
  cases r with
  | rx raw now => exact absurd rfl (hr raw now)
  | host cmd now =>
    obtain rfl := Except.ok.inj h
    exact decodeCommand_receivesFrame ..
  | reset straps => cases h
  | probe | decIn b | encIn f | lcToWire b | lcFromWire w =>
    obtain rfl := Except.ok.inj h
    rfl

/-- The next states of the operations that take no frame, as far as the invariants of 10_state.md look: which registers
are written and with what widths. The dirty mask, the TX mailbox and the outputs are left open. -/
inductive NonFrameEffect (s : State) : State → Prop
  /-- a setter or APPLY_STATE: shadows are written with values of their widths, the region is left -/
  | staged (pu : PendingUpdate) (out : Outputs)
      (hsh : s.pu.sh.fits s.cfg.layout = true → pu.sh.fits s.cfg.layout = true) :
      NonFrameEffect s { s with pu := pu, lock := { held := false }, out := out }
  /-- RX.LOGIN.PROBE: the probe is no longer pending -/
  | probed (txm : TxMailbox) :
      NonFrameEffect s { s with fsm := { s.fsm with probePending := false }, txm := txm }
  /-- IS_BOUND: the clock is sampled and does not go back -/
  | clocked (now : Nat) (out : Outputs) (hclock : s.env.clockSeen ≤ now) :
      NonFrameEffect s { s with out := out, env := { s.env with clockSeen := now } }
  /-- SP_PUBLISH: the state slot takes a Snapshot of the right widths -/
  | published (p : Snapshot) (hp : p.fits s.cfg.layout = true) : NonFrameEffect s (s.publish p)
  /-- the others: only the dirty mask, the TX mailbox, whether the state slot is full, and the outputs -/
  | answered (dirty : BitVec 7) (txm : TxMailbox) (spFull : Bool) (out : Outputs) :
      NonFrameEffect s
        { s with
          pu := { s.pu with dirty := dirty }, txm := txm, spm := { s.spm with full := spFull }, out := out }

theorem setField_effect {g : UField} {v : Byte} {s t : State} (h : setField g v s = .next t) :
    NonFrameEffect s t := by
  obtain ⟨hv, rfl⟩ := setField_cases h
  exact .staged _ _ fun hs => set_fits hs hv

theorem execApplyState_effect {d : Setpoints} {s t : State} (h : execApplyState d s = .next t) :
    NonFrameEffect s t := by
  unfold execApplyState at h
  split at h
  · next hd =>
    obtain rfl := Host.Outcome.next.inj h
    rw [stageAll_frame]
    exact .staged _ _ fun hs => stageAll_sh_fits hs hd
  · cases h

theorem execRxLoginProbe_effect {s t : State} (h : execRxLoginProbe s = .next t) : NonFrameEffect s t := by
  unfold execRxLoginProbe at h
  split at h
  · obtain rfl := Host.Outcome.next.inj h
    rw [transmit_state]
    exact .probed _
  · cases h

theorem execIsBound_effect {now : Nat} {s t : State} (h : execIsBound now s = .next t) : NonFrameEffect s t := by
  unfold execIsBound at h
  split at h
  · cases h
  · next hclock =>
    obtain rfl := Host.Outcome.next.inj h
    exact .clocked now _ (Nat.le_of_not_lt hclock)

theorem execSpPublish_effect {p : Snapshot} {s t : State} (h : execSpPublish p s = .next t) :
    NonFrameEffect s t := by
  unfold execSpPublish at h
  split at h
  · next hp =>
    obtain rfl := Host.Outcome.next.inj h
    exact .published p hp
  · cases h

/-- All an operation that takes no frame can do. -/
theorem exec_effect {i : Instr} {s t : State} (hi : receivesFrame i = false) (h : exec i s = .next t) :
    NonFrameEffect s t := by
  cases i with
  | rxStatusLoginreq | rxStatusLoginreqSecondary | rxStatusExchange | rxLogin | rxError | rxReserved | rxToSecondary
  | rxIgnored | onFrameReceived => cases hi
  | setOnoff v | setTemp v | setMode v | setFanmode v | setEconomy v | setSwingmode v | setSwingstep v =>
    exact setField_effect h
  | applyState d => exact execApplyState_effect h
  | rxLoginProbe => exact execRxLoginProbe_effect h
  | isBound now => exact execIsBound_effect h
  | spPublish p => exact execSpPublish_effect h
  | getOnoff | getTemp | getMode | getFanmode | getEconomy | getSwingmode | getSwingstep | getControllertemp
  | updatePending | getUpdateFields
  | reservedOpsel00 | reservedOpsel16 | reservedOpsel17 | reservedOpsel18 | reservedOpsel19 | reservedOpsel1A
  | reservedOpsel1B | reservedOpsel1C | reservedOpsel1D | reservedOpsel1E | reservedOpsel1F
  | decode b | encode f | toWire b | fromWire w | hasPending | drainInto r | clearDirty sent =>
    obtain rfl := Host.Outcome.next.inj h
    exact .answered _ _ _ _
  | transmit r | txPut w =>
    obtain rfl := Host.Outcome.next.inj h
    simp only [transmit_state, txPut_state]
    exact .answered _ _ _ _
  | stateTake | txTake =>
    simp only [exec, execStateTake, execTxTake] at h
    split at h <;> obtain rfl := Host.Outcome.next.inj h <;> exact .answered _ _ _ _

theorem NonFrameEffect.cs {s t : State} (h : NonFrameEffect s t) : t.cs = s.cs := by
  cases h <;> rfl

/-- Of the protocol flags only the pending probe may change. -/
theorem NonFrameEffect.fsm {s t : State} (h : NonFrameEffect s t) :
    t.fsm = { s.fsm with probePending := t.fsm.probePending } := by
  cases h <;> rfl

/-! ### What a step does -/

/-- The next states of a step. -/
inductive StepEffect (s : State) : State → Prop
  /-- nothing was presented -/
  | idle : StepEffect s s
  /-- a reset -/
  | reset (c : Cfg) (rest : List Request) (hr : s.env.requests = .reset c :: rest) :
      StepEffect s (State.resetWith c (s.withRequests rest).env)
  /-- 8 bytes at the receive port: the body of the received frame's class -/
  | frame (raw : Buf) (now : Nat) (rest : List Request) (hr : s.env.requests = .rx raw now :: rest)
      (hclock : s.env.clockSeen ≤ now)
      (hf : (receivedFrame s.cfg raw).ofClass s.cfg (classOf s.cfg (receivedFrame s.cfg raw)) = true) :
      StepEffect s
        (rxBody (classOf s.cfg (receivedFrame s.cfg raw)) (receivedFrame s.cfg raw) now
          ((s.withRequests rest).sampleClock now))
  /-- any other request -/
  | nonFrame (r : Request) (rest : List Request) (t : State) (hr : s.env.requests = r :: rest)
      (h : NonFrameEffect (s.withRequests rest) t) : StepEffect s t

theorem step_effect {s t : State} (h : step s = .next t) : StepEffect s t := by
  obtain ⟨-, rfl⟩ | ⟨c, rest, hr, rfl⟩ | ⟨r, rest, i, hr, -, hd, hi⟩ := step_cases h
  · exact .idle
  · exact .reset c rest hr
  · by_cases hrx : ∃ raw now, r = .rx raw now
    · obtain ⟨raw, now, rfl⟩ := hrx
      obtain rfl := Except.ok.inj hd
      rw [decodeRx, exec_classInstr] at hi
      obtain ⟨-, hclock, hf, rfl⟩ := onFrame_cases hi
      exact .frame raw now rest hr hclock hf
    · push Not at hrx
      exact .nonFrame r rest t hr (exec_effect (decode_receivesFrame hd hrx) hi)

/-- Settles O38: of the bodies of the RX classes only RX.TO_SECONDARY's writes the flag, and sets it. -/
theorem secondaryFlagIsSetOnlyByAnOverheardFrame : Obligations.SecondaryFlagIsSetOnlyByAnOverheardFrame := by
  intro s t hs h
  cases step_effect h with
  | idle => exact ⟨id, fun hclear hset => by simp [hclear] at hset⟩
  | reset c rest hr => exact absurd hr (hs c rest)
  | frame raw now rest hr _ _ =>
    rw [rxBody_seenSecondary]
    refine ⟨fun hset => by simp [hset], fun hclear hset => ⟨raw, now, rest, hr, ?_⟩⟩
    rw [← classOf_eq_toSecondary_iff]
    simpa [hclear] using hset
  | nonFrame r rest _ _ he =>
    rw [he.fsm]
    exact ⟨id, fun hclear hset => by simp [hclear] at hset⟩

/-- Settles O39: of the bodies of the RX classes only two write CurrentState, and RX.TO_SECONDARY's writes the ambient
temperature alone. -/
theorem currentStateIsWrittenByFramesOnly : Obligations.CurrentStateIsWrittenByFramesOnly := by
  intro s t hs h hcs
  cases step_effect h with
  | idle => exact absurd rfl hcs
  | reset c rest hr => exact absurd hr (hs c rest)
  | frame raw now rest hr _ _ =>
    refine ⟨raw, now, rest, hr, ?_⟩
    by_cases hx : classOf s.cfg (receivedFrame s.cfg raw) = .statusExchange
    · exact .inl hx
    · by_cases ho : classOf s.cfg (receivedFrame s.cfg raw) = .toSecondary
      · exact .inr ⟨ho, by rw [ho]; rfl⟩
      · exact absurd (rxBody_cs _ _ _ hx ho) hcs
  | nonFrame r rest _ _ he => exact absurd he.cs hcs

/-! ### Reset -/

theorem step_reset {s : State} {c : Cfg} {rest : List Request} (hr : s.env.requests = .reset c :: rest) :
    step s = .next (State.resetWith c (s.withRequests rest).env) := by
  simp only [step, hr, serve, decode, State.applyReset_eq]

/-- Settles O49: the step of a reset is `State.resetWith`, which is R23's table. -/
theorem resetGivesEveryFieldItsResetValue : Obligations.ResetGivesEveryFieldItsResetValue :=
  fun _ _ _ hr => ⟨_, _, step_reset hr⟩

end Sys2Proof.Machine

/-! ### The invariant of the block -/

namespace Sys2Proof.Safety

open Sys2Proof.Machine

/-- The reset state is good under straps that meet R2, in an environment whose resets bring such straps. -/
theorem good_resetWith {c : Cfg} {e : Env} (hc : c.wf = true) (he : ∀ c', .reset c' ∈ e.requests → c'.wf = true) :
    Good (State.resetWith c e) where
  cfg_wf := hc
  cs_fits := CurrentState.zero_fits _
  shadows_fit := Setpoints.zero_fits _
  snapshot_fits := CurrentState.zero_fits _
  region_free := rfl
  probe_primary := nofun
  stamp_seen := Nat.zero_le _
  straps_wf := he

/-- Settles O54: both reset states have nothing presented, so no straps are pending. -/
theorem resetStateIsGood : Obligations.ResetStateIsGood :=
  ⟨good_resetWith (by decide) nofun, fun _ _ hc => good_resetWith hc nofun⟩

/-! #### The shared operations keep a good state good -/

section

variable {s : State} (hs : Good s)
include hs

theorem Good.withRequests {rest : List Request} (h : ∀ r ∈ rest, r ∈ s.env.requests) : Good (s.withRequests rest) :=
  { hs with straps_wf := fun c hc => hs.straps_wf c (h _ hc) }

theorem Good.sampleClock {now : Nat} (h : s.env.clockSeen ≤ now) : Good (s.sampleClock now) :=
  { hs with stamp_seen := hs.stamp_seen.trans h }

/-- The stamp is a clock sample already seen (10_state.md R17). -/
theorem Good.noteLiveness {now : Nat} (h : now ≤ s.env.clockSeen) : Good (s.noteLiveness now) :=
  { hs with stamp_seen := h }

theorem Good.transmit (r : Frame) : Good (s.transmit r).1 := by
  rw [transmit_state]
  exact { hs with }

theorem Good.setProbe {b : Bool} (h : b = true → s.cfg.role = .primary) : Good (s.setProbe b) :=
  { hs with probe_primary := h }

theorem Good.adoptSecondary {temp : Byte} (h : fitsIn temp s.cfg.layout.controllerTemp.width = true) :
    Good (s.adoptSecondary temp) := by
  obtain ⟨hset, herror, -⟩ := (CurrentState.fits_iff _ _).1 hs.cs_fits
  exact { hs with cs_fits := (CurrentState.fits_iff _ _).2 ⟨hset, herror, h⟩ }

theorem Good.publish {p : Snapshot} (h : p.fits s.cfg.layout = true) : Good (s.publish p) :=
  { hs with snapshot_fits := h }

theorem Good.publishIfClean : Good s.publishIfClean := by
  unfold State.publishIfClean
  split
  · exact hs
  · exact hs.publish hs.cs_fits

/-- The merge takes each field of CurrentState from the shadows, the frame or itself, and leaves the region
(43_protocol_fsm.md R160). -/
theorem Good.merge {f : Frame} (hf : f.fits s.cfg.layout = true) : Good (s.merge f) := by
  obtain ⟨hset, herror, htemp⟩ := Frame.fits_state hf
  obtain ⟨-, -, hown⟩ := (CurrentState.fits_iff _ _).1 hs.cs_fits
  rw [merge_state, exchangeReply_toSetpoints]
  refine { hs with cs_fits := (CurrentState.fits_iff _ _).2 ⟨?_, herror, ?_⟩, region_free := rfl }
  · exact drainSetpoints_fits _ _ hs.shadows_fit hset
  · dsimp only
    split
    · exact htemp
    · exact hown

/-- A frame of its class, with the clock sampled, keeps a good state good. -/
theorem Good.rxBody {k : FrameClass} {f : Frame} {now : Nat} (hclock : now ≤ s.env.clockSeen)
    (hf : f.fits s.cfg.layout = true) : Good (rxBody k f now s) := by
  have hl : Good (s.noteLiveness now) := hs.noteLiveness hclock
  cases k with
  | statusLoginreq | statusLoginreqSecondary => exact hl.transmit _
  | statusExchange => exact (hl.merge hf).publishIfClean
  | login =>
    dsimp only [Machine.rxBody]
    split
    · next hrole => exact (hl.transmit _).setProbe fun _ => by simpa using hrole
    · exact hl.transmit _
  | error | reserved => exact hl
  | toSecondary =>
    obtain ⟨-, -, htemp⟩ := Frame.fits_state hf
    exact hs.adoptSecondary htemp
  | ignored => exact hs

theorem Good.nonFrame {t : State} (h : NonFrameEffect s t) : Good t := by
  cases h with
  | staged pu out hsh => exact { hs with shadows_fit := hsh hs.shadows_fit, region_free := rfl }
  | probed txm => exact { hs with probe_primary := nofun }
  | clocked now out hclock => exact { hs with stamp_seen := hs.stamp_seen.trans hclock }
  | published p hp => exact hs.publish hp
  | answered dirty txm spFull out => exact { hs with }

/-- Taking the first request off leaves a good state. -/
theorem Good.tail {r : Request} {rest : List Request} (hr : s.env.requests = r :: rest) :
    Good (s.withRequests rest) :=
  hs.withRequests fun _ h => hr ▸ List.mem_cons_of_mem r h

end

/-- Settles O53: a reset samples straps that meet R2, a frame's fields have their widths, and every other operation
writes values of their widths only. -/
theorem everyStepKeepsTheStateGood : Obligations.EveryStepKeepsTheStateGood := by
  intro s t hs h
  cases step_effect h with
  | idle => exact hs
  | reset c rest hr =>
    exact good_resetWith (hs.straps_wf c (hr ▸ List.mem_cons_self ..)) (hs.tail hr).straps_wf
  | frame raw now rest hr hclock hf =>
    exact ((hs.tail hr).sampleClock hclock).rxBody le_rfl (Frame.fits_of_ofClass hf)
  | nonFrame r rest _ hr he => exact (hs.tail hr).nonFrame he

end Sys2Proof.Safety

/-! ## A staged field through an operation and a step (20_memory.md R56) -/

namespace Sys2Proof.Machine

open Sys2Proof.Safety

/-! ### What an exchange leaves in CurrentState -/

@[simp] theorem State.publishIfClean_cs (s : State) : s.publishIfClean.cs = s.cs := by
  rw [publishIfClean_state]

@[simp] theorem State.merge_cs_setpoints (s : State) (f : Frame) :
    (s.merge f).cs.toSetpoints = drainSetpoints s.cfg.dirtyBit s.pu.dirty s.pu.sh f.toSetpoints := by
  rw [merge_state, ← exchangeReply_toSetpoints]

/-- CurrentState takes the shadow of a dirty field and the frame's value of any other (43_protocol_fsm.md R160). -/
theorem exec_rxStatusExchange_cs_get {f : Frame} {now : Nat} {s t : State}
    (h : exec (.rxStatusExchange f now) s = .next t) (g : UField) :
    t.cs.toSetpoints.get g = if isDirty s.cfg.dirtyBit g s.pu.dirty then s.pu.sh.get g else f.toSetpoints.get g := by
  obtain ⟨-, -, -, rfl⟩ := onFrame_cases ((exec_classInstr .statusExchange f now s).symm.trans h)
  simp [rxBody]

theorem exec_rxStatusExchange_cs_get_of_dirty {f : Frame} {now : Nat} {s t : State} {g : UField}
    (h : exec (.rxStatusExchange f now) s = .next t) (hg : isDirty s.cfg.dirtyBit g s.pu.dirty = true) :
    t.cs.toSetpoints.get g = s.pu.sh.get g :=
  (exec_rxStatusExchange_cs_get h g).trans (if_pos hg)

/-! ### What the staging operations leave in the pending-update register -/

theorem exec_setterOf (v : Byte) (g : UField) (s : State) : exec (setterOf v g) s = setField g v s := by
  cases g <;> rfl

/-- A setter that completes does to the pending-update register what `SET_g(v)` does (42_pending_update.md R121). -/
theorem exec_setterOf_pu {v : Byte} {g : UField} {s t : State} (h : exec (setterOf v g) s = .next t) :
    t.pu = (s.stage g v).pu := by
  rw [exec_setterOf] at h
  obtain ⟨-, rfl⟩ := setField_cases h
  rfl

/-- The body of APPLY_STATE does not look at the region it runs in (20_memory.md R52). -/
theorem stageAll_enterRegion (s : State) (d : Setpoints) : s.enterRegion.stageAll d = (s.stageAll d).enterRegion := by
  simp only [State.stageAll, stageIfNew_state]
  rfl

theorem exec_applyState_pu {d : Setpoints} {s t : State} (h : exec (.applyState d) s = .next t) :
    t.pu = (s.stageAll d).pu := by
  simp only [exec, execApplyState] at h
  split at h
  · obtain rfl := Host.Outcome.next.inj h
    rw [stageAll_enterRegion]
    rfl
  · cases h

/-- Staging any field leaves every dirty field dirty (42_pending_update.md R121). -/
theorem isDirty_markDirty_of_dirty {c : DirtyBits} {g : UField} {m : BitVec 7} (g' : UField)
    (hg : isDirty c g m = true) : isDirty c g (markDirty c g' m) = true :=
  getLsbD_markDirty_of_set c g' hg

@[simp] theorem State.stageIfNew_cfg (s : State) (g : UField) (v : Byte) : (s.stageIfNew g v).cfg = s.cfg := by
  rw [stageIfNew_state]

@[simp] theorem State.stageIfNew_cs (s : State) (g : UField) (v : Byte) : (s.stageIfNew g v).cs = s.cs := by
  rw [stageIfNew_state]

@[simp] theorem State.stageIfNew_sh_get_self (s : State) (g : UField) (v : Byte) :
    (s.stageIfNew g v).pu.sh.get g = if v = s.cs.toSetpoints.get g then s.pu.sh.get g else v := by
  rw [stageIfNew_state]
  dsimp only
  split
  · rfl
  · exact set_get_self g s.pu.sh v

@[simp] theorem State.stageIfNew_sh_get_ne (s : State) {g g' : UField} (v : Byte) (hne : g' ≠ g) :
    (s.stageIfNew g v).pu.sh.get g' = s.pu.sh.get g' := by
  rw [stageIfNew_state]
  dsimp only
  split
  · rfl
  · exact set_get_ne s.pu.sh v hne

theorem stageIfNew_isDirty_of_dirty {c : DirtyBits} {s : State} {g : UField} (g' : UField) (v : Byte)
    (hc : s.cfg.dirtyBit = c) (hg : isDirty c g s.pu.dirty = true) :
    isDirty c g (s.stageIfNew g' v).pu.dirty = true := by
  subst hc
  rw [stageIfNew_state]
  dsimp only
  split
  · exact hg
  · exact isDirty_markDirty_of_dirty g' hg

/-- APPLY_STATE handles each field with its own desired value (42_pending_update.md R135). -/
theorem stageAll_eq_get (s : State) (d : Setpoints) :
    s.stageAll d =
      ((((((s.stageIfNew .onOff (d.get .onOff)).stageIfNew .temperature (d.get .temperature)).stageIfNew
        .acMode (d.get .acMode)).stageIfNew .fanMode (d.get .fanMode)).stageIfNew
        .economyMode (d.get .economyMode)).stageIfNew .swingMode (d.get .swingMode)).stageIfNew
        .swingStep (d.get .swingStep) := rfl

/-- APPLY_STATE stages the desired value where it differs from CurrentState's: of the seven fields in turn only `g`'s
own touches the shadow of `g` (42_pending_update.md R135). -/
theorem stageAll_sh_get (s : State) (d : Setpoints) (g : UField) :
    (s.stageAll d).pu.sh.get g = if d.get g = s.cs.toSetpoints.get g then s.pu.sh.get g else d.get g := by
  rw [stageAll_eq_get]
  cases g <;> simp

/-- APPLY_STATE clears no dirty bit (42_pending_update.md R135). -/
theorem stageAll_isDirty_of_dirty {s : State} {g : UField} (d : Setpoints)
    (hg : isDirty s.cfg.dirtyBit g s.pu.dirty = true) :
    isDirty s.cfg.dirtyBit g (s.stageAll d).pu.dirty = true := by
  rw [stageAll_eq_get]
  iterate 7 refine stageIfNew_isDirty_of_dirty _ _ (by simp) ?_
  exact hg

/-! ### Which operations write the pending-update register -/

/-- Of the RX classes only the exchange writes the pending-update register (43_protocol_fsm.md R160). -/
theorem rxBody_pu {k : FrameClass} (f : Frame) (now : Nat) (s : State) (hx : k ≠ .statusExchange) :
    (rxBody k f now s).pu = s.pu := by
  cases k with
  | statusLoginreq | statusLoginreqSecondary => simp [rxBody, transmit_state]
  | statusExchange => exact absurd rfl hx
  | login => dsimp only [rxBody]; split <;> simp [transmit_state]
  | error | reserved | toSecondary | ignored => rfl

/-- What an operation that takes no frame does to the pending-update register, by the operation. -/
inductive PendingEffect (s t : State) : Instr → Prop
  /-- a setter stages its field -/
  | staged (g : UField) (v : Byte) (hpu : t.pu = (s.stage g v).pu) : PendingEffect s t (setterOf v g)
  /-- APPLY_STATE stages the fields that differ from CurrentState -/
  | applied (d : Setpoints) (hpu : t.pu = (s.stageAll d).pu) : PendingEffect s t (.applyState d)
  /-- CLEAR_DIRTY run on its own -/
  | cleared (sent : Bool) (hpu : t.pu = (s.clearDirty sent).pu) : PendingEffect s t (.clearDirty sent)
  /-- every other operation leaves the register -/
  | kept (i : Instr) (hpu : t.pu = s.pu) : PendingEffect s t i

theorem exec_pendingEffect_setterOf {v : Byte} (g : UField) {s t : State} (h : exec (setterOf v g) s = .next t) :
    PendingEffect s t (setterOf v g) :=
  .staged g v (exec_setterOf_pu h)

theorem exec_pendingEffect {i : Instr} {s t : State} (hi : receivesFrame i = false) (h : exec i s = .next t) :
    PendingEffect s t i := by
  cases i with
  | rxStatusLoginreq | rxStatusLoginreqSecondary | rxStatusExchange | rxLogin | rxError | rxReserved | rxToSecondary
  | rxIgnored | onFrameReceived => cases hi
  | setOnoff v => exact exec_pendingEffect_setterOf .onOff h
  | setTemp v => exact exec_pendingEffect_setterOf .temperature h
  | setMode v => exact exec_pendingEffect_setterOf .acMode h
  | setFanmode v => exact exec_pendingEffect_setterOf .fanMode h
  | setEconomy v => exact exec_pendingEffect_setterOf .economyMode h
  | setSwingmode v => exact exec_pendingEffect_setterOf .swingMode h
  | setSwingstep v => exact exec_pendingEffect_setterOf .swingStep h
  | applyState d => exact .applied d (exec_applyState_pu h)
  | clearDirty sent =>
    obtain rfl := Host.Outcome.next.inj h
    exact .cleared sent rfl
  | getOnoff | getTemp | getMode | getFanmode | getEconomy | getSwingmode | getSwingstep | getControllertemp
  | updatePending | getUpdateFields
  | reservedOpsel00 | reservedOpsel16 | reservedOpsel17 | reservedOpsel18 | reservedOpsel19 | reservedOpsel1A
  | reservedOpsel1B | reservedOpsel1C | reservedOpsel1D | reservedOpsel1E | reservedOpsel1F
  | decode b | encode f | toWire b | fromWire w | hasPending | drainInto r =>
    obtain rfl := Host.Outcome.next.inj h
    exact .kept _ rfl
  | transmit r | txPut w =>
    obtain rfl := Host.Outcome.next.inj h
    exact .kept _ (by simp [transmit_state, txPut_state])
  | rxLoginProbe | isBound now | stateTake | txTake | spPublish p =>
    simp only [exec, execRxLoginProbe, execIsBound, execStateTake, execTxTake, execSpPublish] at h
    split at h <;> cases h <;> exact .kept _ (by simp [transmit_state])

/-- CLEAR_DIRTY is internal: no request asks for it (opcode_table.json). -/
theorem decode_ne_clearDirty {c : Cfg} {r : Request} {i : Instr} (h : decode c r = .ok i) (sent : Bool) :
    i ≠ .clearDirty sent := by
  cases r with
  | rx raw now =>
    obtain rfl := Except.ok.inj h
    unfold decodeRx
    cases classOf c (receivedFrame c raw) <;> nofun
  | host cmd now =>
    obtain rfl := Except.ok.inj h
    unfold decodeCommand
    split <;> nofun
  | reset straps => cases h
  | probe | decIn b | encIn f | lcToWire b | lcFromWire w =>
    obtain rfl := Except.ok.inj h
    nofun

/-! ### A staged field -/

/-- Field `g` is dirty and its shadow is `v`. -/
def State.HasStaged (s : State) (g : UField) (v : Byte) : Prop :=
  isDirty s.cfg.dirtyBit g s.pu.dirty = true ∧ s.pu.sh.get g = v

/-- What is staged depends on the parameters and the pending-update register alone. -/
theorem State.hasStaged_congr {s t : State} (hcfg : t.cfg = s.cfg) (hpu : t.pu = s.pu) (g : UField) (v : Byte) :
    t.HasStaged g v ↔ s.HasStaged g v := by
  simp only [State.HasStaged, hcfg, hpu]

/-- A field is staged right after its setter (42_pending_update.md R121). -/
theorem State.stage_hasStaged_self (s : State) (g : UField) (v : Byte) : (s.stage g v).HasStaged g v :=
  ⟨isDirty_markDirty_self .., set_get_self ..⟩

/-- The setter of another field leaves a staged field staged. -/
theorem State.HasStaged.stage_ne {s : State} {g g' : UField} {v : Byte} (hs : s.HasStaged g v) (w : Byte)
    (hne : g ≠ g') : (s.stage g' w).HasStaged g v := by
  obtain ⟨hdirty, hsh⟩ := hs
  exact ⟨isDirty_markDirty_of_dirty g' hdirty, (set_get_ne _ w hne).trans hsh⟩

/-- APPLY_STATE leaves a staged field staged, with the desired value where it differs from CurrentState's. -/
theorem State.HasStaged.stageAll {s : State} {g : UField} {v : Byte} (hs : s.HasStaged g v) (d : Setpoints) :
    (s.stageAll d).HasStaged g (if d.get g = s.cs.toSetpoints.get g then v else d.get g) := by
  obtain ⟨hdirty, rfl⟩ := hs
  refine ⟨?_, stageAll_sh_get s d g⟩
  rw [State.stageAll_cfg]
  exact stageAll_isDirty_of_dirty d hdirty

theorem exec_setterOf_hasStaged {v : Byte} {g : UField} {s t : State} (h : exec (setterOf v g) s = .next t) :
    t.HasStaged g v :=
  (State.hasStaged_congr (s := s.stage g v) ((exec_cfg h).trans (s.stage_cfg g v).symm) (exec_setterOf_pu h) g v).2
    (s.stage_hasStaged_self g v)

/-- A staged field through an operation that a request other than a frame asks for. -/
theorem exec_hasStaged {i : Instr} {s t : State} {g : UField} {v : Byte} (hi : receivesFrame i = false)
    (hclear : ∀ sent, i ≠ .clearDirty sent) (h : exec i s = .next t) (hs : s.HasStaged g v) :
    t.HasStaged g v ∨ (∃ w, i = setterOf w g ∧ t.HasStaged g w) ∨
      ∃ d, i = .applyState d ∧ d.get g ≠ s.cs.toSetpoints.get g ∧ t.HasStaged g (d.get g) := by
  have hcfg := exec_cfg h
  cases exec_pendingEffect hi h with
  | staged g' w hpu =>
    by_cases hg : g = g'
    · subst hg
      exact .inr (.inl ⟨w, rfl, exec_setterOf_hasStaged h⟩)
    · exact .inl ((State.hasStaged_congr (s := s.stage g' w) hcfg hpu g v).2 (hs.stage_ne w hg))
  | applied d hpu =>
    have ht := (State.hasStaged_congr (hcfg.trans (s.stageAll_cfg d).symm) hpu g _).2 (hs.stageAll d)
    by_cases hd : d.get g = s.cs.toSetpoints.get g
    · exact .inl (by rwa [if_pos hd] at ht)
    · exact .inr (.inr ⟨d, rfl, hd, by rwa [if_neg hd] at ht⟩)
  | cleared sent hpu => exact absurd rfl (hclear sent)
  | kept _ hpu => exact .inl ((State.hasStaged_congr hcfg hpu g v).2 hs)

/-- A staged field through a received frame: kept, or taken into CurrentState by an exchange (43_protocol_fsm.md
R160). -/
theorem exec_classInstr_hasStaged {k : FrameClass} {f : Frame} {now : Nat} {s t : State} {g : UField} {v : Byte}
    (h : exec (classInstr k f now) s = .next t) (hs : s.HasStaged g v) :
    t.HasStaged g v ∨ k = .statusExchange ∧ t.cs.toSetpoints.get g = v := by
  by_cases hk : k = .statusExchange
  · subst hk
    obtain ⟨hdirty, rfl⟩ := hs
    exact .inr ⟨rfl, exec_rxStatusExchange_cs_get_of_dirty h hdirty⟩
  · have hcfg := exec_cfg h
    rw [exec_classInstr] at h
    obtain ⟨-, -, -, rfl⟩ := onFrame_cases h
    exact .inl ((State.hasStaged_congr hcfg (rxBody_pu f now _ hk) g v).2 hs)

/-- A staged field through a step (20_memory.md R56): it stays staged, but for the three operations that end its
waiting or stage a new value. -/
theorem step_hasStaged {s t : State} {g : UField} {v : Byte} (hn : NoReset s) (h : step s = .next t)
    (hs : s.HasStaged g v) :
    t.HasStaged g v ∨ ∃ r rest i, s.env.requests = r :: rest ∧ decode s.cfg r = .ok i ∧
      ((∃ f now, i = .rxStatusExchange f now ∧ t.cs.toSetpoints.get g = v) ∨
        (∃ w, i = setterOf w g ∧ t.HasStaged g w) ∨
        ∃ d, i = .applyState d ∧ d.get g ≠ s.cs.toSetpoints.get g ∧ t.HasStaged g (d.get g)) := by
  obtain ⟨-, rfl⟩ | ⟨c, rest, hr, -⟩ | ⟨r, rest, i, hr, -, hd, hi⟩ := step_cases h
  · exact .inl hs
  · exact absurd hr (hn c rest)
  · have hs' : (s.withRequests rest).HasStaged g v := hs
    by_cases hrx : ∃ raw now, r = .rx raw now
    · obtain ⟨raw, now, rfl⟩ := hrx
      obtain rfl := Except.ok.inj hd
      obtain hkept | ⟨hk, hcs⟩ := exec_classInstr_hasStaged hi hs'
      · exact .inl hkept
      · exact .inr ⟨_, rest, _, hr, hd, .inl ⟨_, now, by rw [decodeRx, hk]; rfl, hcs⟩⟩
    · push Not at hrx
      obtain hkept | hnew := exec_hasStaged (decode_receivesFrame hd hrx) (decode_ne_clearDirty hd) hi hs'
      · exact .inl hkept
      · exact .inr ⟨r, rest, i, hr, hd, .inr hnew⟩

/-- Settles O41: the exchange drains every dirty shadow into CurrentState, a setter leaves its field staged, and a
staged field waits through every step of another kind. -/
theorem exchangeSeesEverySetterBeforeIt : Obligations.ExchangeSeesEverySetterBeforeIt := by
  refine ⟨fun g f now s u h hg => exec_rxStatusExchange_cs_get_of_dirty h hg, fun g v f now s t u ht hu => ?_,
    fun g s t hn h hg => step_hasStaged hn h ⟨hg, rfl⟩⟩
  obtain ⟨hdirty, hsh⟩ := exec_setterOf_hasStaged ht
  exact (exec_rxStatusExchange_cs_get_of_dirty hu hdirty).trans hsh

end Sys2Proof.Machine

/-! ## Encoding (30_encoding.md) -/

namespace Sys2Proof

open Sys2Proof.Safety

/-! ### The state fields in a buffer (30_encoding.md R66, R68) -/

theorem Slot.apart_symm {p q : Slot} (h : p.apart q = true) : q.apart p = true := by
  simpa only [Slot.apart, ne_comm, BitVec.and_comm] using h

/-- Any two rows of a layout that meets R2 share no bit. -/
theorem Layout.slots_pairwise {l : Layout} (h : l.wf = true) : l.slots.Pairwise fun p q => p.apart q = true := by
  simp only [Layout.wf, Bool.and_eq_true, decide_eq_true_eq] at h
  obtain ⟨⟨-, hpair⟩, -⟩ := h
  exact hpair

/-- Values inserted through their rows, the first of the list last (70_reset_and_hazards.md R270). -/
def insertFields (qs : List (Slot × Byte)) (b : Buf) : Buf := qs.foldr (fun q => insertField q.1 q.2) b

theorem encodeState_eq_insertFields (l : Layout) (f : Frame) (b : Buf) :
    encodeState l f b = insertFields (stateFields l f) b := rfl

theorem stateFields_fst (l : Layout) (f : Frame) : (stateFields l f).map Prod.fst = l.slots := rfl

theorem insertFields_get_ne {qs : List (Slot × Byte)} {i : Fin 8} (h : ∀ q ∈ qs, i ≠ q.1.index) (b : Buf) :
    (insertFields qs b).get i = b.get i := by
  induction qs with
  | nil => rfl
  | cons q rest ih =>
    obtain ⟨hq, hrest⟩ := List.forall_mem_cons.1 h
    exact (insertField_get_ne _ _ hq).trans (ih hrest)

theorem extract_insertFields_apart {p : Slot} {qs : List (Slot × Byte)} (h : ∀ q ∈ qs, p.apart q.1 = true) (b : Buf) :
    extract p (insertFields qs b) = extract p b := by
  induction qs with
  | nil => rfl
  | cons q rest ih =>
    obtain ⟨hq, hrest⟩ := List.forall_mem_cons.1 h
    exact (extract_insertField_apart hq _ _).trans (ih hrest)

/-- Values that fit, inserted over clear fields through rows that share no bit, are read back. -/
theorem extract_insertFields {qs : List (Slot × Byte)} {b : Buf}
    (hpair : (qs.map Prod.fst).Pairwise fun p q => p.apart q = true)
    (hfit : ∀ q ∈ qs, q.1.wf = true ∧ fitsIn q.2 q.1.width = true) (hclear : ∀ q ∈ qs, extract q.1 b = 0) :
    ∀ q ∈ qs, extract q.1 (insertFields qs b) = q.2 := by
  induction qs with
  | nil => nofun
  | cons q rest ih =>
    obtain ⟨hapart, hpair⟩ := List.pairwise_cons.1 hpair
    obtain ⟨⟨hwf, hv⟩, hfit⟩ := List.forall_mem_cons.1 hfit
    obtain ⟨hq, hclear⟩ := List.forall_mem_cons.1 hclear
    have hapart : ∀ r ∈ rest, q.1.apart r.1 = true := fun r hr => hapart _ (List.mem_map_of_mem hr)
    refine List.forall_mem_cons.2 ⟨?_, fun r hr => ?_⟩
    · exact extract_insertField_self hwf hv ((extract_insertFields_apart hapart b).trans hq)
    · exact (extract_insertField_apart (Slot.apart_symm (hapart r hr)) _ _).trans (ih hpair hfit hclear r hr)

/-- The state fields stand in bytes 3 to 7: the header bytes stay as they are (00_scope.md R2). -/
theorem encodeState_get_header {l : Layout} (hl : l.wf = true) (f : Frame) (b : Buf) {i : Fin 8} (hi : i.val < 3) :
    (encodeState l f b).get i = b.get i := by
  rw [encodeState_eq_insertFields]
  refine insertFields_get_ne (fun q hq => ?_) b
  have hwf := Layout.slot_wf hl (stateFields_fst l f ▸ List.mem_map_of_mem hq)
  obtain ⟨hindex, -, -, -⟩ := q.1.wf_iff.1 hwf
  exact fun h => by omega

theorem stateFields_fit {l : Layout} {f : Frame} (h : f.fits l = true) :
    ∀ q ∈ stateFields l f, fitsIn q.2 q.1.width = true := by
  simp only [Frame.fits, Setpoints.fits, Bool.and_eq_true, and_assoc] at h
  simpa only [stateFields, List.forall_mem_cons, List.not_mem_nil, false_imp_iff, implies_true, and_true] using h

theorem extract_encodeHeader {p : Slot} (hp : p.wf = true) (f : Frame) : extract p (encodeHeader f) = 0 := by
  obtain ⟨hindex, -, -, -⟩ := p.wf_iff.1 hp
  have hzero : ∀ i : Fin 8, 3 ≤ i.val → (encodeHeader f).get i = 0 := by
    simp [Fin.forall_fin_succ, encodeHeader, Buf.get, Buf.zero]
  simp [extract, hzero _ hindex]

/-- Every state field of an encoded frame is read back (40_frame_codec.md R98). -/
theorem extract_encodeFrame {l : Layout} (hl : l.wf = true) {f : Frame} (hf : f.fits l = true) :
    ∀ q ∈ stateFields l f, extract q.1 (encodeFrame l f) = q.2 := by
  have hwf : ∀ q ∈ stateFields l f, q.1.wf = true := fun q hq =>
    Layout.slot_wf hl (stateFields_fst l f ▸ List.mem_map_of_mem hq)
  exact extract_insertFields (Layout.slots_pairwise hl) (fun q hq => ⟨hwf q hq, stateFields_fit hf q hq⟩)
    fun q hq => extract_encodeHeader (hwf q hq) f

/-! ### The header in a buffer (30_encoding.md R64, R65) -/

/-- EXTRACT through `w` adjacent bits from bit `s` up. -/
theorem extract_eq_extractLsb' {m : Byte} {s w : Nat} (hm : ∀ k : Fin 8, m.getLsbD k = decide (s ≤ k ∧ k < s + w))
    (i : Fin 8) (b : Buf) : extract ⟨i, m, s⟩ b = ((b.get i).extractLsb' s w).setWidth 8 := by
  apply BitVec.eq_of_getLsbD_eq
  intro k hk
  simp only [extract, BitVec.getLsbD_ushiftRight, BitVec.getLsbD_and, BitVec.getLsbD_setWidth,
    BitVec.getLsbD_extractLsb', hk, decide_true, Bool.true_and]
  by_cases h8 : s + k < 8
  · have := hm ⟨s + k, h8⟩
    simp_all [Bool.and_comm]
  · rw [BitVec.getLsbD_of_ge _ _ (Nat.le_of_not_lt h8)]
    simp

theorem flag_eq_extractLsb' (x : Byte) (k : Nat) : flag (x.getLsbD k) = (x.extractLsb' k 1).setWidth 8 := by
  apply BitVec.eq_of_getLsbD_eq
  intro j hj
  cases h : x.getLsbD k <;> cases j <;> simp [flag, h]

theorem decodeFrame_messageDest_of_not_broadcast {l : Layout} {a : BitVec 7} {b : Buf}
    (h : (decodeFrame l a b).broadcast = false) : (decodeFrame l a b).messageDest = b.b1.extractLsb' 0 7 :=
  if_neg (ne_true_of_eq_false h)

/-- Settles O5: every row of R64's table is a run of adjacent bits. -/
theorem headerFieldsStandAtTheirFixedPositions : Obligations.HeaderFieldsStandAtTheirFixedPositions := by
  intro l a b f
  have hrow : ∀ (i : Fin 8) (m : Byte) (s w : Nat), (∀ k : Fin 8, m.getLsbD k = decide (s ≤ k ∧ k < s + w)) →
      ((b.get i).extractLsb' s w).setWidth 8 = extract ⟨i, m, s⟩ b := fun i m s w hm =>
    (extract_eq_extractLsb' hm i b).symm
  refine ⟨hrow 0 _ 0 7 (by decide), ?_, fun hbc => ?_, ?_, ?_, hrow 2 _ 4 2 (by decide), ?_⟩
  · exact (flag_eq_extractLsb' b.b0 7).trans (hrow 0 _ 7 1 (by decide))
  · exact decodeFrame_messageDest_of_not_broadcast hbc ▸ hrow 1 _ 0 7 (by decide)
  · exact (flag_eq_extractLsb' b.b1 7).trans (hrow 1 _ 7 1 (by decide))
  · exact (flag_eq_extractLsb' b.b1 5).trans (hrow 1 _ 5 1 (by decide))
  · exact (flag_eq_extractLsb' b.b2 3).trans (hrow 2 _ 3 1 (by decide))

@[simp] theorem flag_getElem (b : Bool) {k : Nat} (hk : k < 8) : (flag b)[k] = (b && decide (k = 0)) := by
  cases b <;> cases k <;> simp [flag]

/-- Bit 5 of byte 1 is written by `loginBit` and, unless the frame is broadcast, by the destination (R65). -/
theorem encodeHeader_shared_bit (f : Frame) :
    (encodeHeader f).b1.getLsbD 5 = (f.loginBit || (!f.broadcast && f.messageDest.getLsbD 5)) := by
  cases h : f.broadcast <;> simp [encodeHeader, h, Bool.or_comm]

/-- The header of an encoded frame is its header bytes: the state fields leave them. -/
theorem encodeFrame_header {l : Layout} (hl : l.wf = true) (f : Frame) :
    (encodeFrame l f).b0 = (encodeHeader f).b0 ∧ (encodeFrame l f).b1 = (encodeHeader f).b1 ∧
      (encodeFrame l f).b2 = (encodeHeader f).b2 :=
  have h (i : Fin 8) (hi : i.val < 3) := encodeState_get_header hl f (encodeHeader f) hi
  ⟨h 0 (by decide), h 1 (by decide), h 2 (by decide)⟩

/-- Settles O6: the state fields leave byte 1, so the bit is the header's. -/
theorem loginBitAndDestinationBitFiveShareOneWireBit : Obligations.LoginBitAndDestinationBitFiveShareOneWireBit := by
  intro l a f b hl
  obtain ⟨-, hb1, -⟩ := encodeFrame_header hl f
  refine ⟨hb1 ▸ encodeHeader_shared_bit f, rfl, fun hbc => ?_⟩
  rw [decodeFrame_messageDest_of_not_broadcast hbc]
  simp

/-- A header is read back but for the shared wire bit and the destination of a broadcast frame (40_frame_codec.md
R98). -/
theorem decodeHeader_encodeHeader (self : BitVec 7) (f : Frame) :
    decodeHeader self (encodeHeader f) =
      { Frame.zero with
        messageSource := f.messageSource
        broadcast := f.broadcast
        messageDest := if f.broadcast then self else f.messageDest ||| (if f.loginBit then 0x20#7 else 0#7)
        unknownBit := f.unknownBit
        loginBit := f.loginBit || (!f.broadcast && f.messageDest.getLsbD 5)
        messageType := f.messageType
        writeBit := f.writeBit } := by
  have hsource : (encodeHeader f).b0.extractLsb' 0 7 = f.messageSource := by
    ext k hk
    interval_cases k <;> simp [encodeHeader]
  have hbroadcast : (encodeHeader f).b0.getLsbD 7 = f.broadcast := by
    simp [encodeHeader]
  have hdest (hbc : f.broadcast = false) : (encodeHeader f).b1.extractLsb' 0 7 =
      f.messageDest ||| (if f.loginBit then 0x20#7 else 0#7) := by
    ext k hk
    cases hlogin : f.loginBit <;> interval_cases k <;> simp [encodeHeader, hbc, hlogin]
  have hunknown : (encodeHeader f).b1.getLsbD 7 = f.unknownBit := by
    cases hbc : f.broadcast <;> simp [encodeHeader, hbc]
  have htype : (encodeHeader f).b2.extractLsb' 4 2 = f.messageType := by
    ext k hk
    interval_cases k <;> simp [encodeHeader]
  have hwrite : (encodeHeader f).b2.getLsbD 3 = f.writeBit := by
    simp [encodeHeader]
  simp only [decodeHeader, hsource, hbroadcast, hunknown, encodeHeader_shared_bit, htype, hwrite]
  cases hbc : f.broadcast
  · simp [hdest hbc]
  · simp

/-- DECODE after ENCODE, for every frame whose fields fit (40_frame_codec.md R98). -/
theorem decodeFrame_encodeFrame {l : Layout} (hl : l.wf = true) (self : BitVec 7) {f : Frame} (hf : f.fits l = true) :
    decodeFrame l self (encodeFrame l f) =
      { f with
        messageDest := if f.broadcast then self else f.messageDest ||| (if f.loginBit then 0x20#7 else 0#7)
        loginBit := f.loginBit || (!f.broadcast && f.messageDest.getLsbD 5) } := by
  obtain ⟨hb0, hb1, hb2⟩ := encodeFrame_header hl f
  have hheader : decodeHeader self (encodeFrame l f) = decodeHeader self (encodeHeader f) := by
    simp only [decodeHeader, hb0, hb1, hb2]
  have hstate := extract_encodeFrame hl hf
  simp only [stateFields, List.forall_mem_cons] at hstate
  obtain ⟨h1, h2, h3, h4, h5, h6, h7, h8, h9, h10, h11, -⟩ := hstate
  simp only [decodeFrame, decodeState, hheader, decodeHeader_encodeHeader, h1, h2, h3, h4, h5, h6, h7, h8, h9, h10, h11]

/-- Writing destination bit 5 a second time changes nothing (30_encoding.md R65). -/
theorem or_bit_five_self (d : BitVec 7) : d ||| (if d.getLsbD 5 then 0x20#7 else 0#7) = d := by
  ext k hk
  cases h : d.getLsbD 5 <;> interval_cases k <;> simp_all

/-- A frame that DECODE can produce is what its wire bytes carry: (RT1) and (RT2) exclude both exceptions of R98. -/
theorem receivedFrame_wireOf {c : Cfg} (hc : c.wf = true) {f : Frame} (hf : f.inbound c = true) :
    receivedFrame c (wireOf c f) = f := by
  simp only [Frame.inbound, Bool.and_eq_true] at hf
  obtain ⟨⟨hfits, hrt1⟩, hrt2⟩ := hf
  obtain ⟨hdest, hlogin⟩ :
      (if f.broadcast then c.addrSelf else f.messageDest ||| (if f.loginBit then 0x20#7 else 0#7)) = f.messageDest ∧
        (f.loginBit || (!f.broadcast && f.messageDest.getLsbD 5)) = f.loginBit := by
    cases hbc : f.broadcast
    · have hrt1 : f.loginBit = f.messageDest.getLsbD 5 := by simpa [Frame.rt1, hbc] using hrt1
      rw [hrt1]
      exact ⟨or_bit_five_self _, by simp⟩
    · have hrt2 : f.messageDest = c.addrSelf := by simpa [Frame.rt2, hbc] using hrt2
      exact ⟨hrt2.symm, by simp⟩
  rw [receivedFrame, wireOf, fromWire_toWire, decodeFrame_encodeFrame (Cfg.layout_wf hc) _ hfits, hdest, hlogin]

/-- The wire bytes of a frame of a class ask for the operation of the class (30_encoding.md R70). -/
theorem decodeRx_wireOf {c : Cfg} (hc : c.wf = true) {k : FrameClass} {f : Frame} (hf : f.ofClass c k = true)
    (now : Nat) : decodeRx c (wireOf c f) now = classInstr k f now := by
  simp only [Frame.ofClass, Bool.and_eq_true, beq_iff_eq] at hf
  obtain ⟨hin, hk⟩ := hf
  rw [decodeRx, receivedFrame_wireOf hc hin, hk]

/-! ### Packed fields (30_encoding.md R76, R78) -/

theorem sliceAt_zero_of_fits {v : Byte} {w : Nat} (h : fitsIn v w = true) : sliceAt v.toNat 0 w = v := by
  have hv : v.toNat < 2 ^ w := by simpa [fitsIn] using h
  simp [sliceAt, Nat.mod_eq_of_lt hv]

theorem packFields_cons_of_fits {v : Byte} {w : Nat} (h : fitsIn v w = true) (rest : List (Nat × Byte)) :
    packFields ((w, v) :: rest) = v.toNat + 2 ^ w * packFields rest := by
  have hv : v.toNat < 2 ^ w := by simpa [fitsIn] using h
  rw [packFields, Nat.mod_eq_of_lt hv]

theorem packFields_cons_div (w : Nat) (v : Byte) (rest : List (Nat × Byte)) :
    packFields ((w, v) :: rest) / 2 ^ w = packFields rest := by
  rw [packFields, Nat.add_mul_div_left _ _ (Nat.two_pow_pos w), Nat.div_eq_of_lt (Nat.mod_lt _ (Nat.two_pow_pos w)),
    Nat.zero_add]

theorem sliceAt_packFields_head {v : Byte} {w : Nat} (h : fitsIn v w = true) (rest : List (Nat × Byte)) :
    sliceAt (packFields ((w, v) :: rest)) 0 w = v := by
  have hv : v.toNat < 2 ^ w := by simpa [fitsIn] using h
  rw [packFields_cons_of_fits h]
  simp [sliceAt, Nat.mod_eq_of_lt hv]

/-- The fields above the first are those of the rest, as far down as the first is wide. -/
theorem sliceAt_packFields_cons (w : Nat) (v : Byte) (rest : List (Nat × Byte)) (off width : Nat) :
    sliceAt (packFields ((w, v) :: rest)) (w + off) width = sliceAt (packFields rest) off width := by
  rw [sliceAt, sliceAt, Nat.pow_add, ← Nat.div_div_eq_div_mul, packFields_cons_div]

/-- APPLY_STATE's argument is read back (30_encoding.md R76). -/
theorem unpackSetpoints_packSetpoints {l : Layout} {p : Setpoints} (h : p.fits l = true) :
    unpackSetpoints l (packSetpoints l p) = p := by
  have hskip (w : Nat) (v : Byte) (rest : List (Nat × Byte)) (width : Nat) :
      sliceAt (packFields ((w, v) :: rest)) w width = sliceAt (packFields rest) 0 width :=
    sliceAt_packFields_cons w v rest 0 width
  simp only [Setpoints.fits, Bool.and_eq_true, and_assoc] at h
  obtain ⟨h1, h2, h3, h4, h5, h6, h7⟩ := h
  simp only [unpackSetpoints, packSetpoints, setpointFields, Nat.add_assoc, sliceAt_packFields_cons, hskip,
    sliceAt_packFields_head h1, sliceAt_packFields_head h2, sliceAt_packFields_head h3, sliceAt_packFields_head h4,
    sliceAt_packFields_head h5, sliceAt_packFields_head h6, sliceAt_packFields_head h7]

/-! ### The host command word (30_encoding.md R74) -/

/-- A command word decodes to its selector's command with its argument. -/
theorem decode_commandWord (c : Cfg) {op arg : Nat} (now : Nat) (ho : op < 32) (ha : arg < 2 ^ argWidth c.layout) :
    decode c (.host (commandWord c.layout op arg) now) = .ok (decodeCommand c.layout op arg now) := by
  obtain ⟨hword, -⟩ := Laws.commandWord_toNat c.layout ho ha
  have hpos := Nat.two_pow_pos (argWidth c.layout)
  have hop : opselOf c.layout (commandWord c.layout op arg) = op := by
    rw [opselOf, hword, Nat.add_comm, Nat.add_mul_div_right _ _ hpos, Nat.div_eq_of_lt ha, Nat.zero_add]
    exact Nat.mod_eq_of_lt ho
  have harg : argOf c.layout (commandWord c.layout op arg) = arg := by
    rw [argOf, hword, Nat.add_comm, Nat.add_mul_mod_self_right, Nat.mod_eq_of_lt ha]
  rw [decode, hop, harg]

theorem decode_commandWord_no_arg (c : Cfg) {op : Nat} (now : Nat) (ho : op < 32) :
    decode c (.host (commandWord c.layout op 0) now) = .ok (decodeCommand c.layout op 0 now) :=
  decode_commandWord c now ho (Nat.two_pow_pos _)

/-- A setter's word asks for the setter with its value (30_encoding.md R74). -/
theorem decode_setterWord {c : Cfg} {op w now : Nat} {v : Byte} {setter : Byte → Instr} (ho : op < 32)
    (hset : ∀ arg, decodeCommand c.layout op arg now = setter (sliceAt arg 0 w)) (hv : fitsIn v w = true) :
    decode c (.host (commandWord c.layout op v.toNat) now) = .ok (setter v) := by
  rw [decode_commandWord c now ho (Laws.byte_arg v _), hset, sliceAt_zero_of_fits hv]

/-- Settles O55, port by port. -/
theorem decodingAnEncodedOperationGivesItBack : Obligations.DecodingAnEncodedOperationGivesItBack := by
  intro c i r hc hi hr hreceived
  cases i with
  | onFrameReceived raw now => exact absurd rfl (hreceived raw now)
  | rxStatusLoginreq f now | rxStatusLoginreqSecondary f now | rxStatusExchange f now | rxLogin f now | rxError f now
  | rxReserved f now | rxToSecondary f now | rxIgnored f now =>
    obtain rfl := Option.some.inj hr
    exact congrArg Except.ok (decodeRx_wireOf hc hi now)
  | setOnoff v | setTemp v | setMode v | setFanmode v | setEconomy v | setSwingmode v | setSwingstep v =>
    obtain rfl := Option.some.inj hr
    exact decode_setterWord (by decide) (fun _ => rfl) hi
  | applyState d =>
    obtain rfl := Option.some.inj hr
    refine (decode_commandWord c 0 (by decide) (Laws.setpoints_arg d _)).trans ?_
    rw [decodeCommand, unpackSetpoints_packSetpoints hi]
  | getOnoff | getTemp | getMode | getFanmode | getEconomy | getSwingmode | getSwingstep | getControllertemp
  | isBound now | updatePending | getUpdateFields | stateTake | txTake
  | reservedOpsel00 | reservedOpsel16 | reservedOpsel17 | reservedOpsel18 | reservedOpsel19 | reservedOpsel1A
  | reservedOpsel1B | reservedOpsel1C | reservedOpsel1D | reservedOpsel1E | reservedOpsel1F =>
    obtain rfl := Option.some.inj hr
    exact decode_commandWord_no_arg c _ (by decide)
  | rxLoginProbe | decode b | encode f | toWire b | fromWire w =>
    obtain rfl := Option.some.inj hr
    rfl
  | transmit r | txPut w | spPublish p | hasPending | drainInto r | clearDirty sent => cases hr

/-! ### What the decoder gives (30_encoding.md R70, R76; 42_pending_update.md R120) -/

theorem classInstr_wf (c : Cfg) (k : FrameClass) (f : Frame) (now : Nat) :
    (classInstr k f now).wf c = f.ofClass c k := by
  cases k <;> rfl

theorem unpackSetpoints_fits (l : Layout) (arg : Nat) : (unpackSetpoints l arg).fits l = true :=
  (Setpoints.fits_iff _ _).2 fun g => by cases g <;> exact sliceAt_fits ..

/-- Of the commands only the setters and APPLY_STATE (selectors 0x01 to 0x07 and 0x08, the arms 2 to 8 and 9) carry
values that have a width. -/
theorem decodeCommand_wf (c : Cfg) (op arg now : Nat) : (decodeCommand c.layout op arg now).wf c = true := by
  unfold decodeCommand
  split
  case h_9 => exact unpackSetpoints_fits _ _
  case h_2 | h_3 | h_4 | h_5 | h_6 | h_7 | h_8 => exact sliceAt_fits ..
  all_goals rfl

/-- Settles O56, port by port: a received frame is of its own class, a field sliced from `arg` has its width, and the
other operations carry no operand with a width. -/
theorem decodedOperationsAreWellFormed : Obligations.DecodedOperationsAreWellFormed := by
  intro c r i hc hd
  cases r with
  | rx raw now =>
    obtain rfl := Except.ok.inj hd
    exact (classInstr_wf ..).trans (receivedFrame_ofClass hc raw)
  | host cmd now =>
    obtain rfl := Except.ok.inj hd
    exact decodeCommand_wf ..
  | reset straps => cases hd
  | probe | decIn b | encIn f | lcToWire b | lcFromWire w =>
    obtain rfl := Except.ok.inj hd
    rfl

/-! ### The default widths (30_encoding.md R66) -/

theorem argWidth_default : argWidth Layout.default = 17 := by decide

/-- The widths of the seven updatable fields under the default `LAYOUT`. -/
theorem slot_width_default :
    Layout.default.onOff.width = 1 ∧ Layout.default.temperature.width = 7 ∧ Layout.default.acMode.width = 3 ∧
      Layout.default.fanMode.width = 3 ∧ Layout.default.economyMode.width = 1 ∧
      Layout.default.swingMode.width = 1 ∧ Layout.default.swingStep.width = 1 := by decide

/-- Settles O58: a word is its selector above 17 bits of argument, and a setter takes the low bits. -/
theorem hostCommandWordSelectsTheCommand : Obligations.HostCommandWordSelectsTheCommand := by
  intro c arg now hl ha d
  have hd (op : Nat) (ho : op < 32) : d op = .ok (decodeCommand Layout.default op arg now) := by
    have hword := decode_commandWord c now ho (hl ▸ argWidth_default.symm ▸ ha)
    rwa [commandWord, hl, argWidth_default] at hword
  obtain ⟨hon, htemp, hmode, hfan, heco, hswing, hstep⟩ := slot_width_default
  have hslice (w : Nat) : sliceAt arg 0 w = BitVec.ofNat 8 (arg % 2 ^ w) := by simp [sliceAt]
  simp only [hd, Nat.reduceLT, decodeCommand, unpackSetpoints, hon, htemp, hmode, hfan, heco, hswing, hstep, hslice]
  simp [sliceAt]

/-- The widths of the two fields above them in a Snapshot, under the default `LAYOUT`. -/
theorem snapshot_width_default :
    Layout.default.acError.width = 1 ∧ Layout.default.controllerTemp.width = 6 := by decide

/-- Settles O20: fields that fit stand one above the other, and the nine default widths leave the word room. -/
theorem snapshotFieldsStandAtTheirPlaces : Obligations.SnapshotFieldsStandAtTheirPlaces := by
  intro p hp
  obtain ⟨honOff, htemp, hmode, hfan, heco, hswing, hstep⟩ := slot_width_default
  obtain ⟨herror, hctrl⟩ := snapshot_width_default
  simp only [CurrentState.fits, Setpoints.fits, Bool.and_eq_true, and_assoc, honOff, htemp, hmode, hfan, heco, hswing,
    hstep, herror, hctrl] at hp
  obtain ⟨h1, h2, h3, h4, h5, h6, h7, h8, h9⟩ := hp
  have hfields : setpointFields Layout.default p.toSetpoints ++
      [(Layout.default.acError.width, p.acError), (Layout.default.controllerTemp.width, p.controllerTemp)] =
        [(1, p.onOff), (7, p.temperature), (3, p.acMode), (3, p.fanMode), (1, p.economyMode), (1, p.swingMode),
          (1, p.swingStep), (1, p.acError), (6, p.controllerTemp)] := by
    rw [setpointFields, honOff, htemp, hmode, hfan, heco, hswing, hstep, herror, hctrl]
    rfl
  rw [packSnapshot, hfields, BitVec.toNat_ofNat]
  refine (Nat.mod_eq_of_lt ((packFields_lt _).trans (Nat.pow_lt_pow_right Nat.one_lt_two (by simp)))).trans ?_
  rw [packFields_cons_of_fits h1, packFields_cons_of_fits h2, packFields_cons_of_fits h3, packFields_cons_of_fits h4,
    packFields_cons_of_fits h5, packFields_cons_of_fits h6, packFields_cons_of_fits h7, packFields_cons_of_fits h8,
    packFields_cons_of_fits h9, packFields]
  ring

/-- Settles O25: every reserved selector has the one meaning of R77. -/
theorem reservedSelectorsChangeNothing : Obligations.ReservedSelectorsChangeNothing := by
  intro s i hi
  have hreserved : Machine.exec i s = Machine.answerReserved s := by
    fin_cases hi <;> rfl
  exact hreserved

/-! ### The frame classes as word patterns (30_encoding.md R70) -/

theorem wordOf_and (x y : Buf) : wordOf x &&& wordOf y = wordOf (andBuf x y) := by
  have happend {n : Nat} {u v w : BitVec n} {a b : Byte} (h : u &&& v = w) :
      (u ++ a) &&& (v ++ b) = w ++ (a &&& b) := by
    rw [BitVec.and_append, h]
  exact happend (happend (happend (happend (happend (happend (happend rfl))))))

theorem wordOf_inj {x y : Buf} : wordOf x = wordOf y ↔ x = y := by
  refine ⟨fun h => ?_, congrArg wordOf⟩
  have happend {n : Nat} {u v : BitVec n} {a b : Byte} (h : u ++ a = v ++ b) : u = v ∧ a = b := by
    have hleft := congrArg (BitVec.extractLsb' 8 n) h
    have hright := congrArg (BitVec.extractLsb' 0 8) h
    rw [BitVec.extractLsb'_append_eq_left, BitVec.extractLsb'_append_eq_left] at hleft
    rw [BitVec.extractLsb'_append_eq_right, BitVec.extractLsb'_append_eq_right] at hright
    exact ⟨hleft, hright⟩
  obtain ⟨h, h0⟩ := happend h
  obtain ⟨h, h1⟩ := happend h
  obtain ⟨h, h2⟩ := happend h
  obtain ⟨h, h3⟩ := happend h
  obtain ⟨h, h4⟩ := happend h
  obtain ⟨h, h5⟩ := happend h
  obtain ⟨h7, h6⟩ := happend h
  cases x
  cases y
  exact (Buf.mk.injEq ..).mpr ⟨h0, h1, h2, h3, h4, h5, h6, h7⟩

/-- The word pattern whose bytes 1 and 2 alone are not zero. -/
theorem wordOf_and_eq_iff (b : Buf) (m1 m2 r1 r2 : Byte) :
    wordOf b &&& wordOf ⟨0, m1, m2, 0, 0, 0, 0, 0⟩ = wordOf ⟨0, r1, r2, 0, 0, 0, 0, 0⟩ ↔
      b.b1 &&& m1 = r1 ∧ b.b2 &&& m2 = r2 := by
  rw [wordOf_and, wordOf_inj]
  simp [andBuf]

theorem and_typeMask_eq_iff (x : Byte) (t : BitVec 2) :
    x &&& 0x30#8 = t.setWidth 8 <<< 4 ↔ x.extractLsb' 4 2 = t := by
  have hmask : x &&& 0x30#8 = (x.extractLsb' 4 2).setWidth 8 <<< 4 := by
    ext k hk
    interval_cases k <;> simp
  have hinj : ∀ u v : BitVec 2, u.setWidth 8 <<< 4 = v.setWidth 8 <<< 4 ↔ u = v := by decide
  rw [hmask, hinj]

theorem and_sharedBitMask_eq_iff (x : Byte) (b : Bool) : x &&& 0x20#8 = flag b <<< 5 ↔ x.getLsbD 5 = b := by
  have hmask : x &&& 0x20#8 = flag (x.getLsbD 5) <<< 5 := by
    ext k hk
    interval_cases k <;> simp
  have hinj : ∀ u v : Bool, flag u <<< 5 = flag v <<< 5 ↔ u = v := by decide
  rw [hmask, hinj]

theorem classOf_of_not_addressed {c : Cfg} {f : Frame} (h : f.messageDest ≠ c.addrSelf) :
    classOf c f = if f.messageDest = c.addrSecondary then .toSecondary else .ignored := by
  simp [classOf, addressedToSecondary, addressedToMe, h]

/-- The class of a login request to this controller, by `ROLE`. -/
def loginRequestClass : Role → FrameClass
  | .primary => .statusLoginreq
  | .secondary => .statusLoginreqSecondary

/-- The class of a frame to this controller, by the type codes of the default `TYPE_CODE` and `loginBit`. -/
def toSelfClass (role : Role) (type : BitVec 2) (login : Bool) : FrameClass :=
  if type = 1 then if login then loginRequestClass role else .statusExchange
  else if type = 2 then .login
  else if type = 3 then .error
  else .reserved

theorem classOf_of_addressed {c : Cfg} {f : Frame} (ht : c.typeCode = TypeCode.default)
    (h : f.messageDest = c.addrSelf) : classOf c f = toSelfClass c.role f.messageType f.loginBit := by
  have hself : addressedToMe c f = true := beq_iff_eq.2 h
  have hcode : ∀ t : BitVec 2, t = 0 ∨ t = 1 ∨ t = 2 ∨ t = 3 := by decide
  rw [classOf, if_pos hself, ht]
  obtain hc | hc | hc | hc := hcode f.messageType <;> rw [hc]
  case inr.inl => cases c.role <;> rfl
  all_goals rfl

/-- The class table read from the class to the type and `loginBit`. -/
theorem toSelfClass_eq_iff (role : Role) (type : BitVec 2) (login : Bool) :
    (toSelfClass role type login = loginRequestClass role ↔ login = true ∧ type = 1) ∧
      (toSelfClass role type login = .statusExchange ↔ login = false ∧ type = 1) ∧
      (toSelfClass role type login = .login ↔ type = 2) ∧
      (toSelfClass role type login = .error ↔ type = 3) ∧
      (toSelfClass role type login = .reserved ↔ type = 0) := by
  revert type login
  cases role <;> decide

/-- Settles O27: each pattern reads the type from byte 2 and `loginBit` from byte 1, which decide the class of a frame
to this controller. -/
theorem frameClassesAreWordPatterns : Obligations.FrameClassesAreWordPatterns := by
  intro c p ht f
  have htype (t : BitVec 2) : wordOf p &&& 0x300000#64 = wordOf ⟨0, 0, t.setWidth 8 <<< 4, 0, 0, 0, 0, 0⟩ ↔
      f.messageType = t :=
    (wordOf_and_eq_iff p 0 0x30 0 _).trans
      ((and_iff_right BitVec.and_zero).trans (and_typeMask_eq_iff p.b2 t))
  have hclass (t : BitVec 2) (b : Bool) :
      wordOf p &&& 0x302000#64 = wordOf ⟨0, flag b <<< 5, t.setWidth 8 <<< 4, 0, 0, 0, 0, 0⟩ ↔
        f.loginBit = b ∧ f.messageType = t :=
    (wordOf_and_eq_iff p 0x20 0x30 _ _).trans
      (and_congr (and_sharedBitMask_eq_iff p.b1 b) (and_typeMask_eq_iff p.b2 t))
  split
  · next hself =>
    obtain ⟨hloginreq, hexchange, hlogin, herror, hreserved⟩ := toSelfClass_eq_iff c.role f.messageType f.loginBit
    rw [classOf_of_addressed ht hself]
    exact ⟨(hclass 1 true).trans hloginreq.symm, (hclass 1 false).trans hexchange.symm, (htype 2).trans hlogin.symm,
      (htype 3).trans herror.symm, (htype 0).trans hreserved.symm⟩
  · next hself => exact classOf_of_not_addressed hself

end Sys2Proof

/-! ## The frame codec (40_frame_codec.md) -/

namespace Sys2Proof

open Sys2Proof.Safety

/-! ### The round trip of a frame (R98) -/

theorem Frame.rt1_iff (f : Frame) :
    f.rt1 = true ↔ (f.broadcast = false → f.loginBit = f.messageDest.getLsbD 5) := by
  cases h : f.broadcast <;> simp [Frame.rt1, h]

theorem Frame.rt2_iff (self : BitVec 7) (f : Frame) :
    f.rt2 self = true ↔ (f.broadcast = true → f.messageDest = self) := by
  cases h : f.broadcast <;> simp [Frame.rt2, h]

/-- (RT1) and (RT2) exclude the two exceptions of R98. -/
theorem decodeFrame_encodeFrame_of_rt {l : Layout} (hl : l.wf = true) {self : BitVec 7} {f : Frame}
    (hf : f.fits l = true) (hrt1 : f.rt1 = true) (hrt2 : f.rt2 self = true) :
    decodeFrame l self (encodeFrame l f) = f := by
  have hdest : (if f.broadcast then self else f.messageDest ||| (if f.loginBit then 0x20#7 else 0#7)) =
      f.messageDest := by
    cases hbc : f.broadcast with
    | false => rw [f.rt1_iff.1 hrt1 hbc]; exact or_bit_five_self _
    | true => exact ((f.rt2_iff self).1 hrt2 hbc).symm
  have hlogin : (f.loginBit || (!f.broadcast && f.messageDest.getLsbD 5)) = f.loginBit := by
    cases hbc : f.broadcast with
    | false => rw [← f.rt1_iff.1 hrt1 hbc]; exact Bool.or_self _
    | true => exact Bool.or_false _
  rw [decodeFrame_encodeFrame hl self hf, hdest, hlogin]

/-- Settles O1: the header and the state fields are read back separately, and (RT1) and (RT2) exclude the exceptions. -/
theorem decodingAnEncodedFrameGivesItBack : Obligations.DecodingAnEncodedFrameGivesItBack :=
  fun _ self f hl hf => ⟨decodeFrame_encodeFrame hl self hf, fun hrt1 hrt2 =>
    decodeFrame_encodeFrame_of_rt hl hf (f.rt1_iff.2 hrt1) ((f.rt2_iff self).2 hrt2)⟩

/-! ### The bytes of the state fields (R95) -/

theorem insertField_get (p : Slot) (v : Byte) (b : Buf) (i : Fin 8) :
    (insertField p v b).get i = if p.index = i then ((v <<< p.shift) &&& p.mask) ||| b.get i else b.get i := by
  split
  · next h => rw [← h, insertField, Buf.get_set_self, BitVec.or_comm]
  · next h => exact insertField_get_ne v b (Ne.symm h)

/-- What a list of values sets in byte `i`, each through its own row: `bodyByte` for any list. -/
def insertedBits (qs : List (Slot × Byte)) (i : Fin 8) : Byte :=
  (qs.filter fun q => decide (q.1.index = i)).foldr (fun q acc => ((q.2 <<< q.1.shift) &&& q.1.mask) ||| acc) 0

theorem bodyByte_eq_insertedBits (l : Layout) (f : Frame) (i : Fin 8) :
    bodyByte l f i = insertedBits (stateFields l f) i := rfl

theorem insertedBits_cons (q : Slot × Byte) (qs : List (Slot × Byte)) (i : Fin 8) :
    insertedBits (q :: qs) i =
      if q.1.index = i then ((q.2 <<< q.1.shift) &&& q.1.mask) ||| insertedBits qs i else insertedBits qs i := by
  by_cases h : q.1.index = i <;> simp [insertedBits, h]

/-- Insertion ORs each byte with the bits set in it, in whatever order (70_reset_and_hazards.md R270). -/
theorem insertFields_get (qs : List (Slot × Byte)) (b : Buf) (i : Fin 8) :
    (insertFields qs b).get i = insertedBits qs i ||| b.get i := by
  induction qs with
  | nil => exact BitVec.zero_or.symm
  | cons q rest ih =>
    have hget : (insertFields (q :: rest) b).get i = (insertField q.1 q.2 (insertFields rest b)).get i := rfl
    rw [hget, insertField_get, ih, insertedBits_cons]
    split
    · exact (BitVec.or_assoc ..).symm
    · rfl

theorem encodeHeader_get_body (f : Frame) {i : Fin 8} (hi : 3 ≤ i.val) : (encodeHeader f).get i = 0 := by
  revert i
  simp [Fin.forall_fin_succ, encodeHeader, Buf.get, Buf.zero]

/-- Bytes 3 to 7 start from zero, so they are the inserted bits. -/
theorem encodeFrame_get_body (l : Layout) (f : Frame) {i : Fin 8} (hi : 3 ≤ i.val) :
    (encodeFrame l f).get i = bodyByte l f i := by
  rw [encodeFrame, encodeState_eq_insertFields, insertFields_get, encodeHeader_get_body f hi,
    bodyByte_eq_insertedBits]
  exact BitVec.or_zero

theorem exec_encode (f : Frame) (s : Machine.State) :
    Machine.exec (.encode f) s = .next (s.showEncoded (encodeFrame s.cfg.layout f)) := rfl

/-- Settles O8: the state fields leave the header bytes and start from zero in the others. -/
theorem encodeWritesEveryFieldThroughItsOwnRow : Obligations.EncodeWritesEveryFieldThroughItsOwnRow := by
  intro f s hl
  obtain ⟨hb0, hb1, hb2⟩ := encodeFrame_header hl f
  exact ⟨encodeFrame s.cfg.layout f, exec_encode f s, hb0, hb1, hb2, fun _ => encodeFrame_get_body _ f⟩

/-! ### The covered bits of a buffer (R99) -/

theorem Buf.ext_get {x y : Buf} (h : ∀ i, x.get i = y.get i) : x = y := by
  cases x
  cases y
  exact (Buf.mk.injEq ..).mpr ⟨h 0, h 1, h 2, h 3, h 4, h 5, h 6, h 7⟩

theorem andBuf_get (x y : Buf) (i : Fin 8) : (andBuf x y).get i = x.get i &&& y.get i := by
  fin_cases i <;> rfl

theorem coverOf_get_body (l : Layout) (b : Buf) {i : Fin 8} (hi : 3 ≤ i.val) :
    (coverOf l b).get i = coveredByte l i := by
  revert i
  simp [Fin.forall_fin_succ, coverOf, Buf.get]

/-- The bits of byte `i` that a list of rows covers: `coveredByte` for any list. -/
def coveredBits (ps : List Slot) (i : Fin 8) : Byte :=
  (ps.filter fun p => decide (p.index = i)).foldr (fun p acc => p.mask ||| acc) 0

theorem coveredByte_eq_coveredBits (l : Layout) (i : Fin 8) : coveredByte l i = coveredBits l.slots i := rfl

theorem coveredBits_cons (p : Slot) (ps : List Slot) (i : Fin 8) :
    coveredBits (p :: ps) i = if p.index = i then p.mask ||| coveredBits ps i else coveredBits ps i := by
  by_cases h : p.index = i <;> simp [coveredBits, h]

/-- A row puts back in place what it extracts: its mask has no bit below `shift`. -/
theorem extract_shiftLeft_and_mask {p : Slot} (hp : p.wf = true) (b : Buf) :
    (extract p b <<< p.shift) &&& p.mask = b.get p.index &&& p.mask := by
  apply BitVec.eq_of_getLsbD_eq
  intro k hk
  simp only [extract, BitVec.getLsbD_and, BitVec.getLsbD_shiftLeft, BitVec.getLsbD_ushiftRight, p.mask_bit hp]
  by_cases hs : p.shift ≤ k
  · simp [hs, hk, Bool.and_assoc]
  · simp [hs]

/-- Every row reads its own field from the decoded buffer (R91). -/
theorem stateFields_decodeFrame (l : Layout) (a : BitVec 7) (b : Buf) :
    stateFields l (decodeFrame l a b) = l.slots.map fun p => (p, extract p b) := rfl

/-- What rows extract, put back through them, is the byte where they cover it. -/
theorem insertedBits_extract {ps : List Slot} (hps : ∀ p ∈ ps, p.wf = true) (b : Buf) (i : Fin 8) :
    insertedBits (ps.map fun p => (p, extract p b)) i = b.get i &&& coveredBits ps i := by
  induction ps with
  | nil => exact BitVec.and_zero.symm
  | cons p rest ih =>
    obtain ⟨hp, hrest⟩ := List.forall_mem_cons.1 hps
    rw [List.map_cons, insertedBits_cons, coveredBits_cons, ih hrest]
    split
    · next hi => rw [extract_shiftLeft_and_mask hp, hi, BitVec.and_or_distrib_left]
    · rfl

theorem encodeFrame_decodeFrame_get_body {l : Layout} (hl : l.wf = true) (a : BitVec 7) (b : Buf) {i : Fin 8}
    (hi : 3 ≤ i.val) : (encodeFrame l (decodeFrame l a b)).get i = (andBuf b (coverOf l b)).get i := by
  rw [encodeFrame_get_body _ _ hi, bodyByte_eq_insertedBits, stateFields_decodeFrame,
    insertedBits_extract (fun _ => Layout.slot_wf hl), andBuf_get, coverOf_get_body _ _ hi, coveredByte_eq_coveredBits]

theorem encodeHeader_decodeFrame_b0 (l : Layout) (a : BitVec 7) (b : Buf) :
    (encodeHeader (decodeFrame l a b)).b0 = b.b0 &&& 0xFF := by
  ext k hk
  interval_cases k <;> simp [encodeHeader, decodeFrame, decodeState, decodeHeader]

/-- The destination bits of a broadcast frame are not written, but for the bit that `loginBit` shares (30_encoding.md
R65). -/
theorem encodeHeader_decodeFrame_b1 (l : Layout) (a : BitVec 7) (b : Buf) :
    (encodeHeader (decodeFrame l a b)).b1 = b.b1 &&& (if b.b0.getLsbD 7 then 0xA0 else 0xFF) := by
  ext k hk
  cases h : b.b0.getLsbD 7 <;> interval_cases k <;> simp_all [encodeHeader, decodeFrame, decodeState, decodeHeader]

theorem encodeHeader_decodeFrame_b2 (l : Layout) (a : BitVec 7) (b : Buf) :
    (encodeHeader (decodeFrame l a b)).b2 = b.b2 &&& 0x38 := by
  ext k hk
  interval_cases k <;> simp [encodeHeader, decodeFrame, decodeState, decodeHeader]

/-- ENCODE after DECODE, for every buffer. -/
theorem encodeFrame_decodeFrame {l : Layout} (hl : l.wf = true) (a : BitVec 7) (b : Buf) :
    encodeFrame l (decodeFrame l a b) = andBuf b (coverOf l b) := by
  obtain ⟨hb0, hb1, hb2⟩ := encodeFrame_header hl (decodeFrame l a b)
  have hbody (i : Fin 8) (hi : 3 ≤ i.val) := encodeFrame_decodeFrame_get_body hl a b hi
  refine Buf.ext_get fun i => ?_
  match i with
  | 0 => exact hb0.trans (encodeHeader_decodeFrame_b0 l a b)
  | 1 => exact hb1.trans (encodeHeader_decodeFrame_b1 l a b)
  | 2 => exact hb2.trans (encodeHeader_decodeFrame_b2 l a b)
  | 3 | 4 | 5 | 6 | 7 => exact hbody _ (by decide)

/-- Settles O2: the header bytes have their fixed masks, and each of bytes 3 to 7 the masks of its rows. -/
theorem encodingADecodedBufferKeepsTheCoveredBits : Obligations.EncodingADecodedBufferKeepsTheCoveredBits :=
  ⟨fun _ a b hl => encodeFrame_decodeFrame hl a b, by decide⟩

/-- DECODE reads the covered bits alone: what it gives is read back from them. -/
theorem decodeFrame_and_coverOf {l : Layout} (hl : l.wf = true) (a : BitVec 7) (b : Buf) :
    decodeFrame l a (andBuf b (coverOf l b)) = decodeFrame l a b := by
  rw [← encodeFrame_decodeFrame hl a b]
  exact decodeFrame_encodeFrame_of_rt hl (decodeFrame_fits hl a b) (decodeFrame_rt1 l a b) (decodeFrame_rt2 l a b)

theorem decodeFrame_congr_covered {l : Layout} (hl : l.wf = true) (a : BitVec 7) {b b' : Buf}
    (h : andBuf b (coverOf l b) = andBuf b' (coverOf l b')) : decodeFrame l a b = decodeFrame l a b' := by
  rw [← decodeFrame_and_coverOf hl a b, h, decodeFrame_and_coverOf hl]

/-- Settles O3: the two buffers that decode alike differ in byte 2 bit 0, which no field covers (30_encoding.md R67). -/
theorem uncoveredBitsDoNotReachTheFrame : Obligations.UncoveredBitsDoNotReachTheFrame :=
  fun _ a hl => ⟨fun _ _ => decodeFrame_congr_covered hl a, Buf.zero, { Buf.zero with b2 := 1 }, by decide,
    decodeFrame_congr_covered hl a (by simp [andBuf, coverOf, Buf.zero])⟩

/-! ### DECODE and the decoder (R91, R92, R100) -/

/-- Settles O4: the broadcast flag selects the own address, whatever byte 1 holds (30_encoding.md R69). -/
theorem broadcastFrameDecodesToTheOwnAddress : Obligations.BroadcastFrameDecodesToTheOwnAddress :=
  fun _ _ _ hbc => ⟨if_pos hbc, hbc⟩

theorem exec_decode (b : Buf) (s : Machine.State) :
    Machine.exec (.decode b) s = .next (s.showDecoded (decodeFrame s.cfg.layout s.cfg.addrSelf b)) := rfl

/-- Settles O7: the header fields are the model's by definition, and every row extracts its own field. -/
theorem decodeReadsEveryFieldFromItsBits : Obligations.DecodeReadsEveryFieldFromItsBits := by
  intro b s
  refine ⟨decodeFrame s.cfg.layout s.cfg.addrSelf b, exec_decode b s, rfl, rfl, rfl, rfl, rfl, rfl, rfl, ?_⟩
  rw [stateFields_decodeFrame]
  exact List.forall_mem_map.2 fun p _ => rfl

theorem opselOf_eq_mod_div (l : Layout) (cmd : Word) :
    opselOf l cmd = cmd.toNat % 2 ^ commandWidth l / 2 ^ argWidth l := by
  rw [opselOf, commandWidth, Nat.add_comm, Nat.pow_add, Nat.mod_mul_right_div_self]

theorem argOf_eq_mod_mod (l : Layout) (cmd : Word) :
    argOf l cmd = cmd.toNat % 2 ^ commandWidth l % 2 ^ argWidth l := by
  rw [argOf, commandWidth, Nat.mod_mod_of_dvd _ (Nat.pow_dvd_pow 2 (Nat.le_add_left ..))]

/-- The decoder reads of a command word the wires of the port alone (30_encoding.md R74). -/
theorem decode_host_congr {c : Cfg} {cmd cmd' : Word} (now : Nat)
    (h : cmd.toNat % 2 ^ commandWidth c.layout = cmd'.toNat % 2 ^ commandWidth c.layout) :
    decode c (.host cmd now) = decode c (.host cmd' now) := by
  simp only [decode, opselOf_eq_mod_div, argOf_eq_mod_mod, h]

/-- Settles O57: only a reset request has no operation, and a command word is read through the port's wires. -/
theorem decoderRejectsOnlyWhatCannotStandAtAPort : Obligations.DecoderRejectsOnlyWhatCannotStandAtAPort :=
  ⟨fun c _ => Machine.exists_decode_eq_ok c, fun _ _ => rfl, fun _ _ => rfl, fun _ _ _ now => decode_host_congr now⟩

end Sys2Proof

namespace Sys2Proof

/-! ### Line coding (R110, R111) -/

theorem toWire_eq_complement (b : Buf) :
    toWire b = ⟨~~~b.b0, ~~~b.b1, ~~~b.b2, ~~~b.b3, ~~~b.b4, ~~~b.b5, ~~~b.b6, ~~~b.b7⟩ := rfl

/-- The wire-to-plain direction is the same complement (41_line_coding.md R111). -/
theorem fromWire_eq_toWire (b : Buf) : fromWire b = toWire b := rfl

theorem exec_toWire (b : Buf) (s : Machine.State) :
    Machine.exec (.toWire b) s = .next (s.showLineCoded (toWire b)) := rfl

theorem exec_fromWire (w : Buf) (s : Machine.State) :
    Machine.exec (.fromWire w) s = .next (s.showLineCoded (fromWire w)) := rfl

/-- Settles O9: each operation shows its function's value on `lc_out`, and both functions are one involution, the
complement of each byte. -/
theorem lineCodingComplementsEveryByte : Obligations.LineCodingComplementsEveryByte := by
  intro b s
  have hto := exec_toWire b s
  have hfrom := exec_fromWire b s
  rw [fromWire_eq_toWire] at hfrom
  rw [toWire_eq_complement] at hto hfrom
  exact ⟨hto, hfrom, fromWire_toWire b, toWire_fromWire b⟩

end Sys2Proof

/-! ## The pending-update register (42_pending_update.md) -/

namespace Sys2Proof

theorem fitsIn_iff {v : Byte} {w : Nat} : fitsIn v w = true ↔ v.toNat < 2 ^ w := by
  simp [fitsIn]

theorem not_fitsIn_iff {v : Byte} {w : Nat} : ¬ fitsIn v w = true ↔ 2 ^ w ≤ v.toNat :=
  fitsIn_iff.not.trans Nat.not_lt

end Sys2Proof

namespace Sys2Proof.Machine

open Sys2Proof.Safety

/-! ### The setters (R120, R121) -/

/-- A setter stages its field inside the exclusive-access region and responds; a wider value is refused. -/
theorem exec_setterOf_eq (v : Byte) (g : UField) (s : State) :
    exec (setterOf v g) s =
      if fitsIn v (s.cfg.layout.slot g).width then
        .next { s with
          pu := (s.stage g v).pu
          lock := { held := false }
          out := { s.out with rspPresent := true, rspData := 0 } }
      else .refused .valueOutOfWidth := by
  rw [exec_setterOf]
  rfl

/-- Settles O10: a value of the field's width takes the branch of the setter that stages it. -/
theorem setterStagesItsFieldAlone : Obligations.SetterStagesItsFieldAlone := by
  intro g v s hv
  rw [exec_setterOf_eq, if_pos (fitsIn_iff.2 hv)]
  rfl

/-! ### APPLY_STATE (R135) -/

/-- APPLY_STATE stages inside the exclusive-access region and responds; a wider value in any field is refused. -/
theorem exec_applyState_eq (d : Setpoints) (s : State) :
    exec (.applyState d) s =
      if d.fits s.cfg.layout then
        .next { s with
          pu := (s.stageAll d).pu
          lock := { held := false }
          out := { s.out with rspPresent := true, rspData := 0 } }
      else .refused .valueOutOfWidth := by
  simp only [exec, execApplyState, stageAll_enterRegion]
  rw [stageAll_frame]
  rfl

/-- One field of APPLY_STATE sets its own dirty bit exactly where the value is new. The mask is read through `c`, so
that the lemma applies after other fields were handled. -/
theorem stageIfNew_isDirty_self {c : DirtyBits} {s : State} (hc : s.cfg.dirtyBit = c) (g : UField) (v : Byte) :
    isDirty c g (s.stageIfNew g v).pu.dirty =
      if v = s.cs.toSetpoints.get g then isDirty c g s.pu.dirty else true := by
  subst hc
  rw [stageIfNew_state]
  dsimp only
  split
  · rfl
  · exact isDirty_markDirty_self ..

/-- One field of APPLY_STATE leaves the dirty bit of another: this is where `DIRTY_BIT` has to be injective. -/
theorem stageIfNew_isDirty_ne {c : DirtyBits} {s : State} (hc : s.cfg.dirtyBit = c) (hwf : c.wf = true)
    {g g' : UField} (v : Byte) (hne : g' ≠ g) :
    isDirty c g' (s.stageIfNew g v).pu.dirty = isDirty c g' s.pu.dirty := by
  subst hc
  rw [stageIfNew_state]
  dsimp only
  split
  · rfl
  · exact isDirty_markDirty_ne hwf hne _

/-- APPLY_STATE sets the dirty bit of a field whose desired value differs from CurrentState's and keeps every other:
of the seven fields in turn only `g`'s own touches the bit of `g`. -/
theorem stageAll_isDirty {s : State} (hwf : s.cfg.dirtyBit.wf = true) (d : Setpoints) (g : UField) :
    isDirty s.cfg.dirtyBit g (s.stageAll d).pu.dirty =
      if d.get g = s.cs.toSetpoints.get g then isDirty s.cfg.dirtyBit g s.pu.dirty else true := by
  rw [stageAll_eq_get]
  cases g <;> simp [stageIfNew_isDirty_self, stageIfNew_isDirty_ne, hwf]

/-- Settles O13: `stageAll` treats each field by its own comparison, in the shadow and in the dirty bit. -/
theorem applyStateStagesExactlyTheDifferingFields : Obligations.ApplyStateStagesExactlyTheDifferingFields := by
  intro d s hwf hd
  have hfits : d.fits s.cfg.layout = true := (Setpoints.fits_iff _ d).2 fun g => fitsIn_iff.2 (hd g)
  refine ⟨(s.stageAll d).pu, by rw [exec_applyState_eq, if_pos hfits], fun g => ?_⟩
  have hsh := stageAll_sh_get s d g
  have hdirty := stageAll_isDirty hwf d g
  split
  · next heq => exact ⟨hsh.trans (if_pos heq), hdirty.trans (if_pos heq)⟩
  · next hne => exact ⟨hsh.trans (if_neg hne), hdirty.trans (if_neg hne)⟩

/-! ### Values wider than their fields (R120; 92_eei_decisions.md D6) -/

theorem exec_spPublish_eq (p : Snapshot) (s : State) :
    exec (.spPublish p) s = if p.fits s.cfg.layout then .next (s.publish p) else .refused .valueOutOfWidth := rfl

/-- Settles O11: the three operations test the width first; for APPLY_STATE one wide field spoils the whole record. -/
theorem valueWiderThanItsFieldIsRefused : Obligations.ValueWiderThanItsFieldIsRefused := by
  refine ⟨fun g v s hv => ?setter, fun d s g hv => ?applyState, fun p s hp => ?spPublish⟩
  case setter => rw [exec_setterOf_eq, if_neg (not_fitsIn_iff.2 hv)]
  case applyState =>
    have hd : ¬ d.fits s.cfg.layout = true := fun h => not_fitsIn_iff.2 hv ((Setpoints.fits_iff _ d).1 h g)
    rw [exec_applyState_eq, if_neg hd]
  case spPublish => rw [exec_spPublish_eq, if_neg (Bool.eq_false_iff.1 hp)]

/-! ### The status queries (R129, R137, R138) -/

theorem State.pending_eq (s : State) : s.pending = decide (s.pu.dirty ≠ 0) := by
  rw [Bool.eq_iff_iff]
  simp [State.pending, anyDirty]

theorem exec_updatePending (s : State) :
    exec .updatePending s = .next (s.respond true (if s.pending then 1 else 0)) := rfl

theorem exec_getUpdateFields (s : State) :
    exec .getUpdateFields s = .next (s.respond true (s.pu.dirty.setWidth 64)) := rfl

theorem exec_hasPending (s : State) : exec .hasPending s = .next (s.returnBit s.pending) := rfl

/-- Settles O14: the queries respond with the mask itself or with whether it is not 0. -/
theorem statusQueriesReportTheDirtyMask : Obligations.StatusQueriesReportTheDirtyMask := by
  intro s
  refine ⟨?_, exec_getUpdateFields s, ?_⟩
  · have hanswer : (if s.pending then (1 : Word) else 0) = if s.pu.dirty = 0 then 0 else 1 := by
      by_cases h : s.pu.dirty = 0 <;> simp [State.pending_eq, h]
    rw [exec_updatePending, hanswer]
    rfl
  · rw [exec_hasPending, State.pending_eq]
    rfl

/-! ### DRAIN_INTO (R130) -/

theorem exec_drainInto (r : Frame) (s : State) :
    exec (.drainInto r) s = .next (s.returnFrame (s.drainInto r).1 (s.drainInto r).2) := rfl

/-- Settles O15: the setpoints of the returned frame are the drained ones, field by field. -/
theorem drainCopiesTheDirtyShadowsOnly : Obligations.DrainCopiesTheDirtyShadowsOnly := by
  intro r s
  refine ⟨drainSetpoints s.cfg.dirtyBit s.pu.dirty s.pu.sh r.toSetpoints, ?_, fun g => drainSetpoints_get ..⟩
  rw [exec_drainInto, ← State.pending_eq]
  rfl

/-- A field drained again takes the same shadow. -/
theorem drainSetpoints_idem (c : DirtyBits) (m : BitVec 7) (sh own : Setpoints) :
    drainSetpoints c m sh (drainSetpoints c m sh own) = drainSetpoints c m sh own :=
  setpoints_ext fun g => by
    simp only [drainSetpoints_get]
    split <;> rfl

/-- With nothing dirty no shadow is copied. -/
theorem drainSetpoints_zero (c : DirtyBits) (sh own : Setpoints) : drainSetpoints c 0 sh own = own :=
  setpoints_ext fun g => by simp [isDirty]

theorem State.drainInto_idem (s : State) (r : Frame) : s.drainInto (s.drainInto r).1 = s.drainInto r := by
  simp only [State.drainInto, drainSetpoints_idem]

theorem State.drainInto_of_clean {s : State} (h : s.pu.dirty = 0) (r : Frame) : s.drainInto r = (r, false) := by
  simp only [State.drainInto, State.pending_eq, h, drainSetpoints_zero]
  rfl

/-- The drain does not look at the outputs. -/
theorem State.drainInto_returnFrame (s : State) (r r' : Frame) (applied : Bool) :
    (s.returnFrame r' applied).drainInto r = s.drainInto r := rfl

/-- The next result replaces the one before. -/
theorem State.returnFrame_returnFrame (s : State) (r r' : Frame) (applied applied' : Bool) :
    (s.returnFrame r' applied').returnFrame r applied = s.returnFrame r applied := rfl

/-- Settles O60: the drain is idempotent and leaves the register it reads. -/
theorem drainCompletesAndMayBeRepeated : Obligations.DrainCompletesAndMayBeRepeated := by
  intro r s
  refine ⟨_, exec_drainInto r s, ?_, State.returnFrame_pu .., fun hclean => ?_⟩
  · rw [exec_drainInto, State.drainInto_returnFrame, State.returnFrame_returnFrame, State.returnFrame_out,
      State.drainInto_idem]
  · rw [State.drainInto_of_clean hclean]
    exact ⟨rfl, rfl⟩

/-! ### CLEAR_DIRTY (R131) -/

theorem exec_clearDirty (sent : Bool) (s : State) : exec (.clearDirty sent) s = .next (s.clearDirty sent) := rfl

/-- Settles O16: the new mask is `clearedMask`, which under each policy is R131's line. -/
theorem clearingTheDirtyMaskFollowsThePolicy : Obligations.ClearingTheDirtyMaskFollowsThePolicy := by
  intro sent s
  rw [exec_clearDirty, State.clearDirty]
  cases s.cfg.clearPolicy with
  | afterHandoff => rfl
  | onMerge => rfl
  | never => rfl

end Sys2Proof.Machine

/-! ## The protocol state machine (43_protocol_fsm.md) -/

namespace Sys2Proof

/-! ### The address filter (R152) -/

/-- A broadcast frame is addressed to this controller (30_encoding.md R69), any other by its destination. -/
theorem addressedToMe_decodeFrame (c : Cfg) (p : Buf) :
    addressedToMe c (decodeFrame c.layout c.addrSelf p) =
      (p.b0.getLsbD 7 || p.b1.extractLsb' 0 7 == c.addrSelf) := by
  change ((if p.b0.getLsbD 7 then c.addrSelf else p.b1.extractLsb' 0 7) == c.addrSelf) = _
  cases p.b0.getLsbD 7 <;> simp

theorem addressedToMe_iff {c : Cfg} {f : Frame} : addressedToMe c f = true ↔ f.messageDest = c.addrSelf :=
  beq_iff_eq

theorem addressedToSecondary_iff {c : Cfg} {f : Frame} :
    addressedToSecondary c f = true ↔ addressedToMe c f = false ∧ f.messageDest = c.addrSecondary := by
  simp [addressedToSecondary]

/-- Settles O26: the decoded destination is the own address where the broadcast bit is set. -/
theorem addressFilterReadsTheBroadcastBitThenTheDestination :
    Obligations.AddressFilterReadsTheBroadcastBitThenTheDestination := by
  intro c p f
  refine ⟨?_, addressedToSecondary_iff, fun hsame => ?_⟩
  · rw [addressedToMe_decodeFrame]
    cases p.b0.getLsbD 7 <;> simp
  · rw [Bool.eq_false_iff]
    intro hsec
    obtain ⟨hme, hdest⟩ := addressedToSecondary_iff.1 hsec
    exact Bool.eq_false_iff.1 hme (addressedToMe_iff.2 (hdest.trans hsame.symm))

/-! ### The class of a frame under any `TYPE_CODE` (30_encoding.md R62, R70) -/

/-- Under R2 the name of a type code is the one `TYPE_CODE` gives it (30_encoding.md R62). -/
theorem TypeCode.name_code {t : TypeCode} (h : t.wf = true) :
    t.name t.status = .status ∧ t.name t.login = .login ∧ t.name t.error = .error ∧
      t.name t.reserved = .reserved := by
  simp only [TypeCode.wf, Bool.and_eq_true, decide_eq_true_eq, List.nodup_cons, List.mem_cons, not_or,
    List.not_mem_nil] at h
  obtain ⟨-, ⟨hsl, hse, hsr, -⟩, ⟨hle, hlr, -⟩, ⟨her, -⟩, -⟩ := h
  simp [TypeCode.name, Ne.symm hsl, Ne.symm hse, Ne.symm hsr, Ne.symm hle, Ne.symm hlr, Ne.symm her]

/-- The class of a frame to this controller by the name of its type, `loginBit` and `ROLE`. -/
def namedSelfClass (role : Role) (login : Bool) : MsgType → FrameClass
  | .status => if login then loginRequestClass role else .statusExchange
  | .login => .login
  | .error => .error
  | .reserved => .reserved

theorem classOf_of_addressedToMe {c : Cfg} {f : Frame} (h : addressedToMe c f = true) :
    classOf c f = namedSelfClass c.role f.loginBit (c.typeCode.name f.messageType) := by
  rw [classOf, if_pos h]
  cases c.typeCode.name f.messageType with
  | status => cases c.role <;> rfl
  | login | error | reserved => rfl

/-- The classes of the frames to this controller. -/
def FrameClass.isToSelf : FrameClass → Bool
  | .toSecondary | .ignored => false
  | .statusLoginreq | .statusLoginreqSecondary | .statusExchange | .login | .error | .reserved => true

theorem isToSelf_classOf (c : Cfg) (f : Frame) : (classOf c f).isToSelf = addressedToMe c f := by
  cases hme : addressedToMe c f with
  | true =>
    rw [classOf_of_addressedToMe hme]
    cases c.typeCode.name f.messageType with
    | status => cases f.loginBit <;> cases c.role <;> rfl
    | login | error | reserved => rfl
  | false =>
    have hdest : f.messageDest ≠ c.addrSelf := fun h => Bool.eq_false_iff.1 hme (addressedToMe_iff.2 h)
    rw [classOf_of_not_addressed hdest]
    split <;> rfl

end Sys2Proof

namespace Sys2Proof.Machine

open Sys2Proof.Safety

/-! ### Putting a frame into the TX mailbox (R155; 44_transport_mailboxes.md R201) -/

theorem exec_txPut (w : Buf) (s : State) : exec (.txPut w) s = .next ((s.txPut w).1.returnBit (s.txPut w).2) := rfl

/-- TRANSMIT is TX_PUT of the line-coded bytes (R155). -/
theorem exec_transmit (r : Frame) (s : State) :
    exec (.transmit r) s = exec (.txPut (toWire (encodeFrame s.cfg.layout r))) s := rfl

theorem exec_txPut_of_empty (w : Buf) {s : State} (h : s.txm.full = false) :
    exec (.txPut w) s =
      .next { s with txm := { full := true, data := w }, out := { s.out with retBit := true } } := by
  simp [exec_txPut, txPut_state, txPut_sent, State.returnBit, h]

theorem exec_txPut_of_full (w : Buf) {s : State} (h : s.txm.full = true) :
    exec (.txPut w) s = .next { s with out := { s.out with retBit := false } } := by
  simp [exec_txPut, txPut_state, txPut_sent, State.returnBit, h]

/-- Settles O17: TRANSMIT is a TX_PUT, whose two outcomes are by whether the slot is full. -/
theorem putIntoAFullSlotDropsTheNewFrame : Obligations.PutIntoAFullSlotDropsTheNewFrame := by
  intro w r s
  rw [exec_transmit]
  exact ⟨fun h => ⟨exec_txPut_of_empty w h, exec_txPut_of_empty _ h⟩,
    fun h => ⟨exec_txPut_of_full w h, exec_txPut_of_full _ h⟩⟩

/-! ### The getters and IS_BOUND (R170 to R180) -/

theorem answerField_eq (v : Byte) (s : State) :
    answerField v s = .next { s with out := { s.out with rspPresent := true, rspData := v.setWidth 64 } } := rfl

/-- Settles O22: each getter is `answerField` of its own field. -/
theorem gettersAnswerCurrentState : Obligations.GettersAnswerCurrentState := fun s =>
  ⟨answerField_eq s.cs.onOff s, answerField_eq s.cs.temperature s, answerField_eq s.cs.acMode s,
    answerField_eq s.cs.fanMode s, answerField_eq s.cs.economyMode s, answerField_eq s.cs.swingMode s,
    answerField_eq s.cs.swingStep s, answerField_eq s.cs.controllerTemp s⟩

theorem boundTest_iff {valid : Bool} {last window now : Nat} :
    boundTest valid last window now = true ↔ valid = true ∧ now - last ≤ window := by
  simp [boundTest]

theorem exec_isBound_of_clock_back {now : Nat} {s : State} (h : now < s.env.clockSeen) :
    exec (.isBound now) s = .refused .clockWentBack :=
  if_pos h

theorem exec_isBound_of_clock {now : Nat} {s : State} (h : s.env.clockSeen ≤ now) :
    exec (.isBound now) s =
      .next ((s.sampleClock now).respond true
        (if boundTest s.fsm.lastRxValid s.fsm.lastRxTime s.cfg.boundWindow now then 1 else 0)) :=
  if_neg h.not_gt

/-- Settles O23: with a clock that does not go back the answer is R180's test. -/
theorem isBoundTestsTheLivenessPair : Obligations.IsBoundTestsTheLivenessPair := by
  intro now s hclock
  rw [exec_isBound_of_clock hclock]
  simp only [boundTest_iff]
  rfl

/-! ### When an RX class runs (R150, R151; 60_exceptions.md R238) -/

section

variable {k : FrameClass} {f : Frame} {now : Nat} {s : State}

/-- An enabled frame of the class runs the class's body on the state with the clock sampled. -/
theorem exec_classInstr_of_enabled (hp : s.fsm.probePending = false) (hc : s.env.clockSeen ≤ now)
    (hf : f.ofClass s.cfg k = true) :
    exec (classInstr k f now) s = .next (rxBody k f now (s.sampleClock now)) := by
  rw [exec_classInstr, onFrame_next hp hc hf]

/-- No frame is processed while a probe is pending (R151; log entry 7). -/
theorem exec_classInstr_of_probe (hp : s.fsm.probePending = true) :
    exec (classInstr k f now) s = .refused .frameBeforeProbe := by
  rw [exec_classInstr, onFrame, if_pos hp]

theorem exec_classInstr_of_clock_back (hp : s.fsm.probePending = false) (hc : now < s.env.clockSeen) :
    exec (classInstr k f now) s = .refused .clockWentBack := by
  rw [exec_classInstr, onFrame, if_neg (Bool.eq_false_iff.1 hp), if_pos hc]

theorem exec_classInstr_of_not_ofClass (hp : s.fsm.probePending = false) (hc : s.env.clockSeen ≤ now)
    (hf : f.ofClass s.cfg k = false) : exec (classInstr k f now) s = .refused .notOfClass := by
  rw [exec_classInstr, onFrame, if_neg (Bool.eq_false_iff.1 hp), if_neg hc.not_gt, if_neg (Bool.eq_false_iff.1 hf)]

end

theorem exec_onFrameReceived_of_probe {s : State} (raw : Buf) (now : Nat) (hp : s.fsm.probePending = true) :
    exec (.onFrameReceived raw now) s = .refused .frameBeforeProbe := by
  rw [execOnFrameReceived_class]
  exact exec_classInstr_of_probe hp

theorem exec_onFrameReceived_of_clock_back {s : State} (raw : Buf) {now : Nat} (hp : s.fsm.probePending = false)
    (hc : now < s.env.clockSeen) : exec (.onFrameReceived raw now) s = .refused .clockWentBack := by
  rw [execOnFrameReceived_class]
  exact exec_classInstr_of_clock_back hp hc

theorem State.probeEnabled_iff (s : State) :
    s.probeEnabled = true ↔ s.fsm.probePending = true ∧ s.cfg.role = .primary := by
  simp [State.probeEnabled]

theorem exec_rxLoginProbe_eq (s : State) :
    exec .rxLoginProbe s =
      if s.probeEnabled then .next ((s.transmit (probeFrame s.cfg)).1.setProbe false)
      else .refused .probeNotEnabled := rfl

/-- Settles O36: the checks of an RX class in their order, then IS_BOUND's and the probe's own. -/
theorem operationsNotEnabledAreRefusedByName : Obligations.OperationsNotEnabledAreRefusedByName := by
  refine ⟨fun k f now s => ⟨exec_classInstr_of_probe, exec_classInstr_of_clock_back, exec_classInstr_of_not_ofClass⟩,
    fun raw now s => ⟨exec_onFrameReceived_of_probe raw now, exec_onFrameReceived_of_clock_back raw⟩,
    fun now s => exec_isBound_of_clock_back, fun s h => ?probe⟩
  case probe =>
    rw [exec_rxLoginProbe_eq, if_neg]
    rw [State.probeEnabled_iff]
    rintro ⟨hp, hrole⟩
    obtain h | h := h
    · simp [hp] at h
    · simp [hrole] at h

/-! ### The replies (R157, R158, R162, R163) -/

/-- Settles O29: the body of the class is one TRANSMIT of the login reply. -/
theorem primaryAnswersALoginRequestWithLogin : Obligations.PrimaryAnswersALoginRequestWithLogin := by
  intro f now s hp hc hf
  refine (exec_classInstr_of_enabled (k := .statusLoginreq) hp hc hf).trans ?_
  rw [rxBody, transmit_state]
  rfl

/-- Settles O30: the body of the class is one TRANSMIT of the announcement. -/
theorem secondaryAnswersALoginRequestWithStatus : Obligations.SecondaryAnswersALoginRequestWithStatus := by
  intro f now s hp hc hf
  refine (exec_classInstr_of_enabled (k := .statusLoginreqSecondary) hp hc hf).trans ?_
  rw [rxBody, transmit_state]
  rfl

/-- What RX.LOGIN does to a state with no probe pending, for either `ROLE` (R162). -/
theorem rxBody_login {s : State} (f : Frame) (now : Nat) (hp : s.fsm.probePending = false) :
    rxBody .login f now s =
      { s with
        fsm := { s.fsm with
          lastRxValid := true, lastRxTime := now, probePending := decide (s.cfg.role = .primary) }
        txm := sentInto s.cfg s.txm (loginAck s.cfg s.cs f) } := by
  rw [rxBody, transmit_state]
  split
  · next hrole =>
    rw [decide_eq_true hrole]
    rfl
  · next hrole =>
    rw [decide_eq_false hrole, ← hp]
    rfl

/-- Settles O32: the acknowledgement, and the pending probe by `ROLE`. -/
theorem loginIsAcknowledgedFromCurrentState : Obligations.LoginIsAcknowledgedFromCurrentState := by
  intro f now s hp hc hf
  refine (exec_classInstr_of_enabled (k := .login) hp hc hf).trans ?_
  rw [rxBody_login (s := s.sampleClock now) f now hp]
  rfl

/-- Settles O33: the probe is enabled, and the same pending bit refuses a frame. -/
theorem probeSendsLoginToTheSecondaryAddress : Obligations.ProbeSendsLoginToTheSecondaryAddress := by
  intro s hp hrole
  refine ⟨?_, fun raw now => exec_onFrameReceived_of_probe raw now hp⟩
  rw [exec_rxLoginProbe_eq, if_pos ((State.probeEnabled_iff s).2 ⟨hp, hrole⟩), transmit_state]
  rfl

/-! ### The classes without a reply (R164 to R167) -/

/-- Settles O34: the body of either class is the liveness update. -/
theorem errorAndReservedFramesOnlyRefreshLiveness : Obligations.ErrorAndReservedFramesOnlyRefreshLiveness :=
  fun _ _ _ hp hc =>
    ⟨exec_classInstr_of_enabled (k := .error) hp hc, exec_classInstr_of_enabled (k := .reserved) hp hc⟩

/-- Settles O35: the body is `adoptSecondary` for a frame to the secondary and nothing for any other. -/
theorem overheardFramesAreAdoptedAndOthersIgnored : Obligations.OverheardFramesAreAdoptedAndOthersIgnored :=
  fun _ _ _ hp hc =>
    ⟨exec_classInstr_of_enabled (k := .toSecondary) hp hc, exec_classInstr_of_enabled (k := .ignored) hp hc⟩

/-! ### The ordinary exchange (R160, R161) -/

/-- The reply to an exchange in one frame: the drained setpoints, the header, the update marks (R160). -/
theorem exchangeReply_eq (s : State) (f : Frame) :
    (s.exchangeReply f).1 = { f with
      toSetpoints := drainSetpoints s.cfg.dirtyBit s.pu.dirty s.pu.sh f.toSetpoints
      messageType := s.cfg.typeCode.status, messageSource := s.cfg.addrSelf, broadcast := false
      messageDest := if s.fsm.seenSecondary then s.cfg.addrSecondary else s.cfg.addrUnit
      loginBit := s.fsm.seenSecondary
      controllerPresent := if s.fsm.seenSecondary then 0 else 1
      updateMagic := if s.pu.dirty = 0 then umPlain else umUpdate
      unknownBit := true, writeBit := decide (s.pu.dirty ≠ 0) } := by
  rw [State.exchangeReply, State.pending_eq]
  by_cases hclean : s.pu.dirty = 0#7 <;> simp [hclean, markUpdate, State.drainInto, exchangeBase]

/-- The dirty mask after an exchange: cleared by policy, and only if something was dirty (R160). -/
def exchangedMask (s : State) : BitVec 7 :=
  if s.pu.dirty = 0 then 0 else clearedMask s.cfg.clearPolicy (!s.txm.full) s.pu.dirty

/-- R131's policies where the reply is put into the slot exactly when it is empty. -/
theorem exchangedMask_eq (s : State) :
    exchangedMask s = if s.pu.dirty = 0 then 0 else
      match s.cfg.clearPolicy with
      | .afterHandoff => if s.txm.full then s.pu.dirty else 0
      | .onMerge => 0
      | .never => s.pu.dirty := by
  rw [exchangedMask]
  cases s.cfg.clearPolicy with
  | afterHandoff => cases s.txm.full <;> rfl
  | onMerge => rfl
  | never => rfl

theorem ite_pending_clearedMask (s : State) :
    (if s.pending then clearedMask s.cfg.clearPolicy (!s.txm.full) s.pu.dirty else s.pu.dirty) = exchangedMask s := by
  rw [exchangedMask, State.pending_eq]
  by_cases hclean : s.pu.dirty = 0#7 <;> simp [hclean]

/-- CurrentState after an exchange (R160). -/
def exchangedCs (s : State) (f : Frame) : CurrentState :=
  { drainSetpoints s.cfg.dirtyBit s.pu.dirty s.pu.sh f.toSetpoints with
    acError := f.acError
    controllerTemp := if s.cfg.statusOverwritesCtrlTemp then f.controllerTemp else s.cs.controllerTemp }

theorem merge_eq (s : State) (f : Frame) :
    s.merge f =
      { s with
        cs := exchangedCs s f
        pu := { s.pu with dirty := exchangedMask s }
        txm := sentInto s.cfg s.txm (s.exchangeReply f).1
        lock := { held := false } } := by
  rw [merge_state, exchangeReply_toSetpoints, ite_pending_clearedMask]
  rfl

/-- CurrentState is published exactly when no field is dirty (R161). -/
theorem publishIfClean_eq (s : State) :
    s.publishIfClean = { s with spm := if s.pu.dirty = 0 then { full := true, data := s.cs } else s.spm } := by
  rw [publishIfClean_state, State.pending_eq]
  by_cases hclean : s.pu.dirty = 0#7 <;> simp [hclean]

/-- Settles O31: the merge, and the publication gate on the mask that the merge leaves. -/
theorem exchangeMergesRepliesAndPublishes : Obligations.ExchangeMergesRepliesAndPublishes := by
  intro f now s hp hc hf
  refine ⟨drainSetpoints s.cfg.dirtyBit s.pu.dirty s.pu.sh f.toSetpoints, exchangedMask s,
    fun g => drainSetpoints_get .., exchangedMask_eq s, ?_⟩
  refine (exec_classInstr_of_enabled (k := .statusExchange) hp hc hf).trans ?_
  rw [rxBody, merge_eq, publishIfClean_eq, exchangeReply_eq]
  rfl

/-! ### Every frame runs one class (R150) -/

@[simp] theorem State.transmit_env (s : State) (r : Frame) : (s.transmit r).1.env = s.env := by
  rw [transmit_state]

theorem rxBody_env (k : FrameClass) (f : Frame) (now : Nat) (s : State) : (rxBody k f now s).env = s.env := by
  cases k with
  | statusLoginreq | statusLoginreqSecondary => simp [rxBody]
  | statusExchange => simp [rxBody, merge_state, publishIfClean_state]
  | login => dsimp only [rxBody]; split <;> simp
  | error | reserved | toSecondary | ignored => rfl

/-- All ON_FRAME_RECEIVED can do when it answers a next state. -/
theorem exec_onFrameReceived_cases {raw : Buf} {now : Nat} {s t : State}
    (h : exec (.onFrameReceived raw now) s = .next t) :
    t = rxBody (classOf s.cfg (receivedFrame s.cfg raw)) (receivedFrame s.cfg raw) now (s.sampleClock now) := by
  rw [execOnFrameReceived_class, exec_classInstr] at h
  obtain ⟨-, -, -, ht⟩ := onFrame_cases h
  exact ht

theorem exec_onFrameReceived_env {raw : Buf} {now : Nat} {s t : State}
    (h : exec (.onFrameReceived raw now) s = .next t) : t.env = { s.env with clockSeen := now } := by
  rw [exec_onFrameReceived_cases h, rxBody_env]
  rfl

/-- The class of a frame to this controller, type by type, under R2. -/
theorem classOf_to_self {c : Cfg} (hwf : c.wf = true) {f : Frame} (hself : f.messageDest = c.addrSelf) :
    (f.messageType = c.typeCode.status → f.loginBit = true → classOf c f = loginRequestClass c.role) ∧
      (f.messageType = c.typeCode.status → f.loginBit = false → classOf c f = .statusExchange) ∧
      (f.messageType = c.typeCode.login → classOf c f = .login) ∧
      (f.messageType = c.typeCode.error → classOf c f = .error) ∧
      (f.messageType = c.typeCode.reserved → classOf c f = .reserved) := by
  obtain ⟨hstatus, hlogin, herror, hreserved⟩ := TypeCode.name_code (Cfg.typeCode_wf hwf)
  rw [classOf_of_addressedToMe (addressedToMe_iff.2 hself)]
  refine ⟨fun ht hb => ?_, fun ht hb => ?_, fun ht => ?_, fun ht => ?_, fun ht => ?_⟩
  · rw [ht, hstatus, hb]; rfl
  · rw [ht, hstatus, hb]; rfl
  · rw [ht, hlogin]; rfl
  · rw [ht, herror]; rfl
  · rw [ht, hreserved]; rfl

/-- Under R2 an enabled frame runs the operation of its class to a next state (R150). -/
theorem exists_exec_onFrameReceived_next {raw : Buf} {now : Nat} {s : State} (hwf : s.cfg.wf = true)
    (hp : s.fsm.probePending = false) (hc : s.env.clockSeen ≤ now) :
    ∃ t, exec (.onFrameReceived raw now) s = .next t ∧
      ∀ k, classOf s.cfg (receivedFrame s.cfg raw) = k →
        exec (classInstr k (receivedFrame s.cfg raw) now) s = .next t := by
  have hrun := exec_classInstr_of_enabled hp hc (receivedFrame_ofClass hwf raw)
  exact ⟨_, (execOnFrameReceived_class raw now s).trans hrun, fun k hk => hk ▸ hrun⟩

/-- Settles O28: the operation of the frame's class is enabled, and `classOf` reads address, type, `loginBit` and `ROLE`
in this order. -/
theorem everyEnabledFrameIsProcessedByItsClass : Obligations.EveryEnabledFrameIsProcessedByItsClass := by
  intro raw now s hwf hp hc f
  obtain ⟨t, hreceived, hrun⟩ := exists_exec_onFrameReceived_next (raw := raw) hwf hp hc
  refine ⟨t, hreceived, by rw [exec_onFrameReceived_env hreceived], exec_cfg hreceived, ?_⟩
  split
  · next hself =>
    obtain ⟨hloginreq, hexchange, hlogin, herror, hreserved⟩ := classOf_to_self hwf hself
    refine ⟨fun ht hb hrole => ?_, fun ht hb hrole => ?_, fun ht hb => hrun _ (hexchange ht hb),
      fun ht => hrun _ (hlogin ht), fun ht => hrun _ (herror ht), fun ht => hrun _ (hreserved ht)⟩
    · exact hrun .statusLoginreq ((hloginreq ht hb).trans (congrArg loginRequestClass hrole))
    · exact hrun .statusLoginreqSecondary ((hloginreq ht hb).trans (congrArg loginRequestClass hrole))
  · next hself =>
    have hother := classOf_of_not_addressed hself
    split
    · next hsec => exact hrun _ (hother.trans (if_pos hsec))
    · next hsec => exact hrun _ (hother.trans (if_neg hsec))

/-! ### The liveness pair (R153, R180) -/

/-- The body of a class writes the liveness pair exactly when the class is of frames to this controller (R153). -/
theorem rxBody_liveness (k : FrameClass) (f : Frame) (now : Nat) (s : State) :
    if k.isToSelf then (rxBody k f now s).fsm.lastRxValid = true ∧ (rxBody k f now s).fsm.lastRxTime = now
    else (rxBody k f now s).fsm.lastRxValid = s.fsm.lastRxValid ∧
      (rxBody k f now s).fsm.lastRxTime = s.fsm.lastRxTime := by
  cases k with
  | statusLoginreq | statusLoginreqSecondary | statusExchange => simp [FrameClass.isToSelf, rxBody]
  | login => by_cases hrole : s.cfg.role = .primary <;> simp [FrameClass.isToSelf, rxBody, hrole]
  | error | reserved | toSecondary | ignored => exact ⟨rfl, rfl⟩

/-- Settles O37: the class of a frame is one of those to this controller exactly when the frame is addressed to it. -/
theorem livenessIsWrittenByExactlyTheFramesToSelf : Obligations.LivenessIsWrittenByExactlyTheFramesToSelf := by
  intro raw now s t h
  rw [exec_onFrameReceived_cases h, ← isToSelf_classOf]
  exact rxBody_liveness ..

/-- Settles O24: the frame leaves its clock sample in the liveness pair and in the record of the clock, so IS_BOUND
completes and measures from it. -/
theorem boundForExactlyOneSecondAfterAFrameToSelf : Obligations.BoundForExactlyOneSecondAfterAFrameToSelf := by
  intro raw now later s t h hself hlater
  have hlive := livenessIsWrittenByExactlyTheFramesToSelf raw now s t h
  rw [if_pos hself] at hlive
  obtain ⟨hvalid, htime⟩ := hlive
  have hclock : t.env.clockSeen ≤ later := by
    rw [exec_onFrameReceived_env h]
    exact hlater
  refine ⟨_, isBoundTestsTheLivenessPair later t hclock, ?_⟩
  simp [hvalid, htime, exec_cfg h]

end Sys2Proof.Machine

/-! ## The transport mailboxes (44_transport_mailboxes.md) -/

namespace Sys2Proof.Machine

open Sys2Proof.Safety

/-! ### Publishing and taking (R203, R205, R206) -/

/-- Settles O18: a Snapshot of the right widths takes the branch that publishes, whatever the slot holds. -/
theorem publishingOverwritesTheStateSlot : Obligations.PublishingOverwritesTheStateSlot := by
  intro p s hp
  rw [exec_spPublish_eq, if_pos hp]
  rfl

theorem exec_txTake_eq (s : State) :
    exec .txTake s =
      .next (if s.txm.full then s.emptyTx.respond true (wordOf s.txm.data) else s.respond false 0) :=
  (apply_ite Host.Outcome.next ..).symm

theorem exec_stateTake_eq (s : State) :
    exec .stateTake s =
      .next (if s.spm.full then s.emptySp.respond true (packSnapshot s.cfg.layout s.spm.data)
        else s.respond false 0) :=
  (apply_ite Host.Outcome.next ..).symm

/-- Settles O19: each take is its two branches, by whether its slot is full. -/
theorem takeAnswersAndEmptiesTheSlot : Obligations.TakeAnswersAndEmptiesTheSlot :=
  fun s => ⟨exec_txTake_eq s, exec_stateTake_eq s⟩

/-- After TX_TAKE the TX slot is empty and keeps its bytes; the state slot is as it was. -/
theorem exec_txTake_mailboxes {s t : State} (h : exec .txTake s = .next t) :
    t.txm = { s.txm with full := false } ∧ t.spm = s.spm := by
  rw [exec_txTake_eq] at h
  obtain rfl := Host.Outcome.next.inj h
  split
  · exact ⟨rfl, rfl⟩
  · next hempty => exact ⟨by rw [← Bool.eq_false_iff.2 hempty]; rfl, rfl⟩

/-- After STATE_TAKE the state slot is empty and keeps its Snapshot; the TX slot is as it was. -/
theorem exec_stateTake_mailboxes {s t : State} (h : exec .stateTake s = .next t) :
    t.txm = s.txm ∧ t.spm = { s.spm with full := false } := by
  rw [exec_stateTake_eq] at h
  obtain rfl := Host.Outcome.next.inj h
  split
  · exact ⟨rfl, rfl⟩
  · next hempty => exact ⟨rfl, by rw [← Bool.eq_false_iff.2 hempty]; rfl⟩

/-! ### Which operations write a mailbox -/

/-- The operation may write a mailbox: it takes a frame, sends the probe, takes from a mailbox, or is one of the
internal functions that put into one. -/
def writesMailbox : Instr → Bool
  | .rxLoginProbe | .txTake | .stateTake | .transmit _ | .txPut _ | .spPublish _ => true
  | i => receivesFrame i

@[simp] theorem State.stageAll_txm (s : State) (d : Setpoints) : (s.stageAll d).txm = s.txm := by
  rw [stageAll_frame]

@[simp] theorem State.stageAll_spm (s : State) (d : Setpoints) : (s.stageAll d).spm = s.spm := by
  rw [stageAll_frame]

/-- Every other operation leaves both mailboxes (R207). -/
theorem exec_mailboxes_eq {i : Instr} {s t : State} (hi : writesMailbox i = false) (h : exec i s = .next t) :
    t.txm = s.txm ∧ t.spm = s.spm := by
  cases i with
  | rxStatusLoginreq | rxStatusLoginreqSecondary | rxStatusExchange | rxLogin | rxError | rxReserved | rxToSecondary
  | rxIgnored | onFrameReceived | rxLoginProbe | stateTake | txTake | transmit | txPut | spPublish => cases hi
  | setOnoff v | setTemp v | setMode v | setFanmode v | setEconomy v | setSwingmode v | setSwingstep v =>
    obtain ⟨-, rfl⟩ := setField_cases h
    exact ⟨rfl, rfl⟩
  | getOnoff | getTemp | getMode | getFanmode | getEconomy | getSwingmode | getSwingstep | getControllertemp
  | updatePending | getUpdateFields
  | reservedOpsel00 | reservedOpsel16 | reservedOpsel17 | reservedOpsel18 | reservedOpsel19 | reservedOpsel1A
  | reservedOpsel1B | reservedOpsel1C | reservedOpsel1D | reservedOpsel1E | reservedOpsel1F
  | decode b | encode f | toWire b | fromWire w | hasPending | drainInto r | clearDirty sent =>
    obtain rfl := Host.Outcome.next.inj h
    exact ⟨rfl, rfl⟩
  | applyState d | isBound now =>
    simp only [exec, execApplyState, execIsBound] at h
    split at h <;> cases h
    simp

/-- Of the host commands only the two takes write a mailbox (30_encoding.md R77). -/
theorem decodeCommand_writesMailbox (l : Layout) (op arg now : Nat) :
    decodeCommand l op arg now = .txTake ∨ decodeCommand l op arg now = .stateTake ∨
      writesMailbox (decodeCommand l op arg now) = false := by
  unfold decodeCommand
  split <;> simp [writesMailbox, receivesFrame]

/-! ### The mailboxes through a frame and a probe (R169) -/

/-- The TX mailbox may have gone from `m` to `m'` by one TRANSMIT (R201; 43_protocol_fsm.md R155). -/
def SentAtMostOne (c : Cfg) (m m' : TxMailbox) : Prop := m' = m ∨ ∃ reply, m' = sentInto c m reply

/-- The body of a class attempts at most one reply (43_protocol_fsm.md R169). -/
theorem rxBody_txm (k : FrameClass) (f : Frame) (now : Nat) (s : State) :
    SentAtMostOne s.cfg s.txm (rxBody k f now s).txm := by
  cases k with
  | statusLoginreq | statusLoginreqSecondary => exact .inr ⟨_, by rw [rxBody, transmit_state]; rfl⟩
  | statusExchange => exact .inr ⟨_, by rw [rxBody, publishIfClean_state, merge_state]; rfl⟩
  | login => exact .inr ⟨loginAck s.cfg s.cs f, by dsimp only [rxBody]; split <;> simp [transmit_state]⟩
  | error | reserved | toSecondary | ignored => exact .inl rfl

/-- Only an exchange publishes, and what it publishes is its own CurrentState (43_protocol_fsm.md R161). -/
theorem rxBody_spm (k : FrameClass) (f : Frame) (now : Nat) (s : State) :
    (rxBody k f now s).spm = s.spm ∨
      k = .statusExchange ∧ (rxBody k f now s).spm = { full := true, data := (rxBody k f now s).cs } := by
  cases k with
  | statusLoginreq | statusLoginreqSecondary => exact .inl (by rw [rxBody, transmit_state]; rfl)
  | statusExchange =>
    rw [rxBody, publishIfClean_state]
    dsimp only
    split
    · exact .inl (by rw [merge_state]; rfl)
    · exact .inr ⟨rfl, rfl⟩
  | login => exact .inl (by dsimp only [rxBody]; split <;> simp [transmit_state])
  | error | reserved | toSecondary | ignored => exact .inl rfl

/-! ### What a request does to the mailboxes (R207; 70_reset_and_hazards.md R252) -/

/-- What the operation of a request that is not a reset does to the two mailboxes. -/
inductive MailboxEffect (s t : State) (r : Request) : Prop
  /-- a frame or a probe: at most one TRANSMIT, and an exchange may publish -/
  | sent (hr : r = .probe ∨ ∃ raw now, r = .rx raw now) (htx : SentAtMostOne s.cfg s.txm t.txm)
      (hsp : t.spm = s.spm ∨
        ∃ f now, decode s.cfg r = .ok (.rxStatusExchange f now) ∧ t.spm = { full := true, data := t.cs })
  /-- TX_TAKE -/
  | txTaken (hd : decode s.cfg r = .ok .txTake) (htx : t.txm = { s.txm with full := false }) (hsp : t.spm = s.spm)
  /-- STATE_TAKE -/
  | stateTaken (hd : decode s.cfg r = .ok .stateTake) (htx : t.txm = s.txm)
      (hsp : t.spm = { s.spm with full := false })
  /-- any other operation -/
  | kept (htx : t.txm = s.txm) (hsp : t.spm = s.spm)

theorem exec_decodeRx_mailboxEffect {raw : Buf} {now : Nat} {s t : State}
    (h : exec (decodeRx s.cfg raw now) s = .next t) : MailboxEffect s t (.rx raw now) := by
  rw [decodeRx, exec_classInstr] at h
  obtain ⟨-, -, -, rfl⟩ := onFrame_cases h
  refine .sent (.inr ⟨raw, now, rfl⟩) (rxBody_txm _ _ now (s.sampleClock now)) ?_
  refine (rxBody_spm _ _ now (s.sampleClock now)).imp_right fun ⟨hk, hsp⟩ =>
    ⟨receivedFrame s.cfg raw, now, ?_, hsp⟩
  rw [decode, decodeRx, hk, classInstr]

theorem execRxLoginProbe_mailboxEffect {s t : State} (h : execRxLoginProbe s = .next t) :
    MailboxEffect s t .probe := by
  unfold execRxLoginProbe at h
  split at h
  · obtain rfl := Host.Outcome.next.inj h
    rw [transmit_state]
    exact .sent (.inl rfl) (.inr ⟨_, rfl⟩) (.inl rfl)
  · cases h

theorem exec_mailboxEffect {r : Request} {i : Instr} {s t : State} (hd : decode s.cfg r = .ok i)
    (h : exec i s = .next t) : MailboxEffect s t r := by
  cases r with
  | rx raw now =>
    obtain rfl := Except.ok.inj hd
    exact exec_decodeRx_mailboxEffect h
  | host cmd now =>
    obtain rfl := Except.ok.inj hd
    obtain htake | htake | hother := decodeCommand_writesMailbox s.cfg.layout (opselOf s.cfg.layout cmd)
      (argOf s.cfg.layout cmd) now
    · rw [htake] at h
      obtain ⟨htx, hsp⟩ := exec_txTake_mailboxes h
      exact .txTaken (congrArg Except.ok htake) htx hsp
    · rw [htake] at h
      obtain ⟨htx, hsp⟩ := exec_stateTake_mailboxes h
      exact .stateTaken (congrArg Except.ok htake) htx hsp
    · obtain ⟨htx, hsp⟩ := exec_mailboxes_eq hother h
      exact .kept htx hsp
  | probe =>
    obtain rfl := Except.ok.inj hd
    exact execRxLoginProbe_mailboxEffect h
  | decIn b | encIn f | lcToWire b | lcFromWire w =>
    obtain rfl := Except.ok.inj hd
    obtain ⟨htx, hsp⟩ := exec_mailboxes_eq rfl h
    exact .kept htx hsp
  | reset straps => cases hd

/-! ### Who fills and who empties a mailbox (R207; 43_protocol_fsm.md R169) -/

/-- A TRANSMIT on a full slot is dropped. -/
theorem SentAtMostOne.eq_of_full {c : Cfg} {m m' : TxMailbox} (h : SentAtMostOne c m m') (hfull : m.full = true) :
    m' = m := by
  obtain hkept | ⟨reply, hsent⟩ := h
  · exact hkept
  · exact hsent.trans (sentInto_full c m reply hfull)

/-- The slot changes only by becoming full. -/
theorem SentAtMostOne.full_of_ne {c : Cfg} {m m' : TxMailbox} (h : SentAtMostOne c m m') (hne : m' ≠ m) :
    m.full = false ∧ m'.full = true := by
  refine ⟨Bool.eq_false_iff.2 fun hfull => hne (h.eq_of_full hfull), ?_⟩
  obtain hkept | ⟨reply, rfl⟩ := h
  · exact absurd hkept hne
  · exact sentInto_is_full c m reply

namespace MailboxEffect

variable {s t : State} {r : Request}

/-- The TX bytes change only where the slot is filled. -/
theorem filled_of_data_ne (h : MailboxEffect s t r) (hne : t.txm.data ≠ s.txm.data) :
    s.txm.full = false ∧ t.txm.full = true := by
  cases h with
  | sent _ htx _ => exact htx.full_of_ne fun heq => hne (congrArg TxMailbox.data heq)
  | txTaken _ htx _ => exact absurd (congrArg TxMailbox.data htx) hne
  | stateTaken _ htx _ | kept htx _ => exact absurd (congrArg TxMailbox.data htx) hne

/-- Only a frame or a probe fills the TX slot. -/
theorem request_of_filled (h : MailboxEffect s t r) (hempty : s.txm.full = false) (hfull : t.txm.full = true) :
    r = .probe ∨ ∃ raw now, r = .rx raw now := by
  cases h with
  | sent hr _ _ => exact hr
  | txTaken _ htx _ => simp [htx] at hfull
  | stateTaken _ htx _ | kept htx _ => simp [htx, hempty] at hfull

/-- Only TX_TAKE empties the TX slot. -/
theorem decode_of_emptied (h : MailboxEffect s t r) (hfull : s.txm.full = true) (hempty : t.txm.full = false) :
    decode s.cfg r = .ok .txTake := by
  cases h with
  | sent _ htx _ => simp [htx.eq_of_full hfull, hfull] at hempty
  | txTaken hd _ _ => exact hd
  | stateTaken _ htx _ | kept htx _ => simp [htx, hfull] at hempty

/-- Only an exchange and STATE_TAKE change the state slot. -/
theorem decode_of_spm_ne (h : MailboxEffect s t r) (hne : t.spm ≠ s.spm) :
    (∃ f now, decode s.cfg r = .ok (.rxStatusExchange f now) ∧ t.spm = { full := true, data := t.cs }) ∨
      decode s.cfg r = .ok .stateTake ∧ t.spm = { s.spm with full := false } := by
  cases h with
  | sent _ _ hsp => exact .inl (hsp.resolve_left hne)
  | stateTaken hd _ hsp => exact .inr ⟨hd, hsp⟩
  | txTaken _ _ hsp | kept _ hsp => exact absurd hsp hne

end MailboxEffect

/-- Settles O21: nothing presented changes nothing, and of the other requests the effect on the mailboxes is
`MailboxEffect`. -/
theorem mailboxesChangeOnlyByTheirOwnOperations : Obligations.MailboxesChangeOnlyByTheirOwnOperations := by
  intro s t hs h
  obtain ⟨-, rfl⟩ | ⟨c, rest, hr, -⟩ | ⟨r, rest, i, hr, -, hd, hi⟩ := step_cases h
  · exact ⟨fun hne => absurd rfl hne, fun hempty hfull => by simp [hempty] at hfull,
      fun hfull hempty => by simp [hfull] at hempty, fun hne => absurd rfl hne⟩
  · exact absurd hr (hs c rest)
  · have he : MailboxEffect (s.withRequests rest) t r := exec_mailboxEffect hd hi
    refine ⟨he.filled_of_data_ne, fun hempty hfull => ⟨r, rest, hr, he.request_of_filled hempty hfull⟩,
      fun hfull hempty => ⟨r, rest, hr, he.decode_of_emptied hfull hempty⟩, fun hne => ?_⟩
    obtain ⟨f, now, hx, hsp⟩ | ⟨htake, hsp⟩ := he.decode_of_spm_ne hne
    · exact .inl ⟨r, rest, f, now, hr, hx, hsp⟩
    · exact .inr ⟨r, rest, hr, htake, hsp⟩

end Sys2Proof.Machine

/-! ## Requests and contexts (60_exceptions.md) -/

namespace Sys2Proof.Machine

open Sys2Proof.Safety

/-! ### One step (R230, R239; 20_memory.md R51) -/

/-- Settles O47: with a configuration that meets R2 the step passes its only test. -/
theorem stepRunsTheDecodedOperation : Obligations.StepRunsTheDecodedOperation :=
  fun _ _ _ _ hwf hr hd => (step_of_decode hr hd).trans (if_pos hwf)

theorem step_of_no_request {s : State} (h : s.env.requests = []) : step s = .next s := by
  rw [step, h]

/-- Settles O48: the step looks at the list of requests first. -/
theorem idleBlockKeepsAllItsState : Obligations.IdleBlockKeepsAllItsState := fun _ => step_of_no_request

/-! ### Setters in either order (R231, R236) -/

theorem set_comm {g h : UField} (hne : g ≠ h) (p : Setpoints) (v w : Byte) :
    (p.set v g).set w h = (p.set w h).set v g := by
  refine setpoints_ext fun k => ?_
  by_cases hg : k = g
  · subst hg
    rw [set_get_ne _ w hne, set_get_self, set_get_self]
  · rw [set_get_ne _ v hg]
    by_cases hh : k = h
    · subst hh
      rw [set_get_self, set_get_self]
    · rw [set_get_ne _ w hh, set_get_ne _ w hh, set_get_ne _ v hg]

theorem set_set_self (g : UField) (p : Setpoints) (v w : Byte) : (p.set v g).set w g = p.set w g := by
  cases g <;> rfl

theorem markDirty_comm (d : DirtyBits) (g h : UField) (m : BitVec 7) :
    markDirty d h (markDirty d g m) = markDirty d g (markDirty d h m) := by
  simp only [markDirty]
  ac_rfl

theorem markDirty_idem (d : DirtyBits) (g : UField) (m : BitVec 7) :
    markDirty d g (markDirty d g m) = markDirty d g m := by
  simp only [markDirty, BitVec.or_assoc, BitVec.or_self]

theorem exec_setterOf_cases {g : UField} {v : Byte} {s t : State} (h : exec (setterOf v g) s = .next t) :
    fitsIn v (s.cfg.layout.slot g).width = true ∧
      t = { s with
            pu := { dirty := markDirty s.cfg.dirtyBit g s.pu.dirty, sh := s.pu.sh.set v g }
            lock := { held := false }
            out := { s.out with rspPresent := true, rspData := 0 } } :=
  setField_cases ((exec_setterOf v g s).symm.trans h)

/-- Settles O12: the dirty marks commute and repeat freely, shadows of two fields are apart, and the second shadow of
one field replaces the first. -/
theorem settersCommuteAndTheLastOneWins : Obligations.SettersCommuteAndTheLastOneWins := by
  refine ⟨fun g h v w s t u t' u' hne ht hu ht' hu' => ?commute, fun g v w s t u ht hu => ?lastWins⟩
  case commute =>
    obtain ⟨-, rfl⟩ := exec_setterOf_cases ht
    obtain ⟨-, rfl⟩ := exec_setterOf_cases hu
    obtain ⟨-, rfl⟩ := exec_setterOf_cases ht'
    obtain ⟨-, rfl⟩ := exec_setterOf_cases hu'
    dsimp only
    rw [markDirty_comm s.cfg.dirtyBit g h, set_comm hne]
  case lastWins =>
    obtain ⟨-, rfl⟩ := exec_setterOf_cases ht
    obtain ⟨hw, rfl⟩ := exec_setterOf_cases hu
    dsimp only
    rw [exec_setterOf_eq, if_pos hw, markDirty_idem, set_set_self]
    rfl

/-! ### The caller contexts (R235) -/

/-- An operation of the caller contexts writes no more than the pending-update register, the state mailbox, the
outputs and the environment's clock record, and it leaves the exclusive-access region if it enters it. -/
theorem exec_caller_frame {i : Instr} {s t : State} (hi : contextOf i = some .caller) (h : exec i s = .next t) :
    t = { s with pu := t.pu, spm := t.spm, lock := t.lock, out := t.out, env := t.env } ∧
      (t.lock = s.lock ∨ t.lock = { held := false }) := by
  cases i with
  | setOnoff v | setTemp v | setMode v | setFanmode v | setEconomy v | setSwingmode v | setSwingstep v =>
    obtain ⟨-, rfl⟩ := setField_cases h
    exact ⟨rfl, .inr rfl⟩
  | applyState d =>
    rw [exec_applyState_eq] at h
    split at h <;> cases h
    exact ⟨rfl, .inr rfl⟩
  | getOnoff | getTemp | getMode | getFanmode | getEconomy | getSwingmode | getSwingstep | getControllertemp
  | updatePending | getUpdateFields =>
    obtain rfl := Host.Outcome.next.inj h
    exact ⟨rfl, .inl rfl⟩
  | isBound now =>
    simp only [exec, execIsBound] at h
    split at h <;> cases h
    exact ⟨rfl, .inl rfl⟩
  | stateTake =>
    rw [exec_stateTake_eq] at h
    obtain rfl := Host.Outcome.next.inj h
    split <;> exact ⟨rfl, .inl rfl⟩
  | _ => cases hi

/-- Settles O40: what a caller-context operation may write is none of the four registers, and it never ends inside
the region. -/
theorem callerOperationsLeaveTheProtocolState : Obligations.CallerOperationsLeaveTheProtocolState := by
  intro i s t hi h
  obtain ⟨hframe, hlock⟩ := exec_caller_frame hi h
  refine ⟨by rw [hframe], by rw [hframe], by rw [hframe], by rw [hframe], fun hfree => ?_⟩
  obtain hkept | hleft := hlock
  · rw [hkept, hfree]
  · rw [hleft]

/-! ### A reply dropped by a full TX mailbox (R225; 70_reset_and_hazards.md R261) -/

/-- The mask that an exchange leaves when its reply does not reach the slot: only ON_MERGE clears it
(42_pending_update.md R131). -/
theorem exchangedMask_of_full {s : State} (hfull : s.txm.full = true) :
    exchangedMask s = if s.cfg.clearPolicy = .onMerge then 0 else s.pu.dirty := by
  rw [exchangedMask, hfull]
  by_cases hclean : s.pu.dirty = 0
  · rw [if_pos hclean, hclean, ite_self]
  · rw [if_neg hclean]
    cases s.cfg.clearPolicy <;> rfl

/-- What an exchange leaves in the registers that tell whether a pending update was lost (43_protocol_fsm.md R160,
R161). -/
theorem exec_rxStatusExchange_registers {f : Frame} {now : Nat} {s t : State}
    (h : exec (.rxStatusExchange f now) s = .next t) :
    t.txm = sentInto s.cfg s.txm (s.exchangeReply f).1 ∧ t.pu = { s.pu with dirty := exchangedMask s } ∧
      t.spm = if exchangedMask s = 0 then { full := true, data := t.cs } else s.spm := by
  obtain ⟨-, -, -, rfl⟩ := onFrame_cases ((exec_classInstr .statusExchange f now s).symm.trans h)
  rw [rxBody, merge_eq, publishIfClean_eq]
  exact ⟨rfl, rfl, rfl⟩

/-- Settles O44: the slot keeps its old frame, the merge has taken the dirty shadows, and the mask is cleared by
ON_MERGE alone. -/
theorem droppedReplyLeavesOptimisticCurrentState : Obligations.DroppedReplyLeavesOptimisticCurrentState := by
  intro f now s t hfull hdirty h
  obtain ⟨htx, hpu, hsp⟩ := exec_rxStatusExchange_registers h
  rw [exchangedMask_of_full hfull] at hpu hsp
  refine ⟨htx.trans (sentInto_full _ _ _ hfull), fun g hg => exec_rxStatusExchange_cs_get_of_dirty h hg,
    fun hpolicy => ?kept, fun hpolicy => ?cleared⟩
  case kept =>
    rw [if_neg hpolicy] at hpu hsp
    rw [if_neg hdirty] at hsp
    exact ⟨hpu, hsp⟩
  case cleared =>
    rw [if_pos hpolicy] at hpu hsp
    rw [if_pos rfl] at hsp
    exact ⟨hpu, hsp⟩

/-! ### The enabled requests (R220, R230, R238) -/

/-- The operation has a condition on the state: it takes a frame, is the probe, or samples the clock. -/
def isConditional : Instr → Bool
  | .rxLoginProbe | .isBound _ => true
  | i => receivesFrame i

theorem exists_exec_setterOf {g : UField} {v : Byte} {s : State}
    (hv : fitsIn v (s.cfg.layout.slot g).width = true) : ∃ t, exec (setterOf v g) s = .next t :=
  ⟨_, (exec_setterOf_eq v g s).trans (if_pos hv)⟩

/-- Every other operation completes on operands of their widths, in every state (R220). -/
theorem exists_exec_next_of_wf {i : Instr} {s : State} (hi : isConditional i = false) (hwf : i.wf s.cfg = true) :
    ∃ t, exec i s = .next t := by
  cases i with
  | rxStatusLoginreq | rxStatusLoginreqSecondary | rxStatusExchange | rxLogin | rxError | rxReserved | rxToSecondary
  | rxIgnored | onFrameReceived | rxLoginProbe | isBound => cases hi
  | setOnoff v => exact exists_exec_setterOf (g := .onOff) hwf
  | setTemp v => exact exists_exec_setterOf (g := .temperature) hwf
  | setMode v => exact exists_exec_setterOf (g := .acMode) hwf
  | setFanmode v => exact exists_exec_setterOf (g := .fanMode) hwf
  | setEconomy v => exact exists_exec_setterOf (g := .economyMode) hwf
  | setSwingmode v => exact exists_exec_setterOf (g := .swingMode) hwf
  | setSwingstep v => exact exists_exec_setterOf (g := .swingStep) hwf
  | applyState d => exact ⟨_, (exec_applyState_eq d s).trans (if_pos hwf)⟩
  | spPublish p => exact ⟨_, (exec_spPublish_eq p s).trans (if_pos hwf)⟩
  | stateTake => exact ⟨_, exec_stateTake_eq s⟩
  | txTake => exact ⟨_, exec_txTake_eq s⟩
  | getOnoff | getTemp | getMode | getFanmode | getEconomy | getSwingmode | getSwingstep | getControllertemp
  | updatePending | getUpdateFields
  | reservedOpsel00 | reservedOpsel16 | reservedOpsel17 | reservedOpsel18 | reservedOpsel19 | reservedOpsel1A
  | reservedOpsel1B | reservedOpsel1C | reservedOpsel1D | reservedOpsel1E | reservedOpsel1F
  | decode b | encode f | toWire b | fromWire w | transmit r | txPut w | hasPending | drainInto r | clearDirty sent =>
    exact ⟨_, rfl⟩

theorem exists_exec_classInstr_iff {k : FrameClass} {f : Frame} {now : Nat} {s : State}
    (hf : f.ofClass s.cfg k = true) :
    (∃ t, exec (classInstr k f now) s = .next t) ↔ s.fsm.probePending = false ∧ s.env.clockSeen ≤ now := by
  constructor
  · rintro ⟨t, h⟩
    obtain ⟨hp, hc, -, -⟩ := onFrame_cases ((exec_classInstr k f now s).symm.trans h)
    exact ⟨hp, hc⟩
  · rintro ⟨hp, hc⟩
    exact ⟨_, exec_classInstr_of_enabled hp hc hf⟩

theorem exists_exec_isBound_iff {now : Nat} {s : State} :
    (∃ t, exec (.isBound now) s = .next t) ↔ s.env.clockSeen ≤ now := by
  refine ⟨fun ⟨t, h⟩ => ?_, fun hc => ⟨_, exec_isBound_of_clock hc⟩⟩
  by_contra hback
  rw [exec_isBound_of_clock_back (Nat.lt_of_not_le hback)] at h
  cases h

theorem exists_exec_rxLoginProbe_iff {s : State} :
    (∃ t, exec .rxLoginProbe s = .next t) ↔ s.probeEnabled = true := by
  rw [exec_rxLoginProbe_eq]
  split
  · next hen => exact iff_of_true ⟨_, rfl⟩ hen
  · next hen => exact iff_of_false (by simp) hen

/-- Of the host commands only IS_BOUND has a condition (30_encoding.md R75 to R77; the arm 18 is selector 0x11). -/
theorem decodeCommand_isConditional {op : Nat} (l : Layout) (arg now : Nat) (hop : op ≠ 0x11) :
    isConditional (decodeCommand l op arg now) = false := by
  unfold decodeCommand
  split
  case h_18 => exact absurd rfl hop
  all_goals rfl

theorem exists_exec_decodeCommand_iff {op arg now : Nat} {s : State} :
    (∃ t, exec (decodeCommand s.cfg.layout op arg now) s = .next t) ↔ op ≠ 0x11 ∨ s.env.clockSeen ≤ now := by
  by_cases hop : op = 0x11
  · subst hop
    exact exists_exec_isBound_iff.trans (by simp)
  · exact iff_of_true
      (exists_exec_next_of_wf (decodeCommand_isConditional _ arg now hop) (decodeCommand_wf s.cfg op arg now))
      (.inl hop)

/-- A request's operation completes exactly where the request is enabled (R230). -/
theorem exists_exec_iff_enabled {s : State} {r : Request} {i : Instr} (hwf : s.cfg.wf = true)
    (hd : decode s.cfg r = .ok i) : (∃ t, exec i s = .next t) ↔ enabled s r = true := by
  cases r with
  | rx raw now =>
    obtain rfl := Except.ok.inj hd
    exact (exists_exec_classInstr_iff (receivedFrame_ofClass hwf raw)).trans (by simp [enabled])
  | host cmd now =>
    obtain rfl := Except.ok.inj hd
    exact exists_exec_decodeCommand_iff.trans (by simp [enabled])
  | probe =>
    obtain rfl := Except.ok.inj hd
    exact exists_exec_rxLoginProbe_iff
  | decIn b | encIn f | lcToWire b | lcFromWire w =>
    obtain rfl := Except.ok.inj hd
    exact iff_of_true (exists_exec_next_of_wf rfl rfl) rfl
  | reset straps => cases hd

/-- Whether a request is enabled does not depend on the requests after it. -/
theorem enabled_withRequests (s : State) (rest : List Request) (r : Request) :
    enabled (s.withRequests rest) r = enabled s r := by
  cases r <;> rfl

/-- Settles O51: a reset always goes on, and any other request as its operation does. -/
theorem stepGoesOnExactlyForEnabledRequests : Obligations.StepGoesOnExactlyForEnabledRequests := by
  intro s r rest hwf hr
  cases hd : decode s.cfg r with
  | ok i =>
    rw [stepRunsTheDecodedOperation s r rest i hwf hr hd, ← enabled_withRequests s rest r]
    exact exists_exec_iff_enabled (s := s.withRequests rest) hwf hd
  | error e =>
    obtain ⟨straps⟩ := e
    obtain rfl := decode_reset hd
    exact iff_of_true ⟨_, step_reset hr⟩ rfl

end Sys2Proof.Machine

/-! ## Hazards (70_reset_and_hazards.md) -/

namespace Sys2Proof

/-! ### A STATUS frame and bit 5 of the own address (R260) -/

/-- The login bit of the STATUS classes, which are told apart by it (30_encoding.md R70). -/
def FrameClass.statusLoginBit : FrameClass → Option Bool
  | .statusLoginreq | .statusLoginreqSecondary => some true
  | .statusExchange => some false
  | .login | .error | .reserved | .toSecondary | .ignored => none

theorem FrameClass.isToSelf_of_statusLoginBit {k : FrameClass} {b : Bool} (h : k.statusLoginBit = some b) :
    k.isToSelf = true := by
  cases k with
  | statusLoginreq | statusLoginreqSecondary | statusExchange => rfl
  | login | error | reserved | toSecondary | ignored => cases h

theorem statusLoginBit_namedSelfClass {role : Role} {login b : Bool} {m : MsgType}
    (h : (namedSelfClass role login m).statusLoginBit = some b) : login = b := by
  cases m with
  | status => cases login <;> cases role <;> exact Option.some.inj h
  | login | error | reserved => cases h

/-- A frame of a STATUS class is addressed to this controller and has the login bit of the class. -/
theorem loginBit_of_statusLoginBit_classOf {c : Cfg} {f : Frame} {b : Bool}
    (h : (classOf c f).statusLoginBit = some b) : addressedToMe c f = true ∧ f.loginBit = b := by
  have hme : addressedToMe c f = true :=
    (isToSelf_classOf c f).symm.trans (FrameClass.isToSelf_of_statusLoginBit h)
  rw [classOf_of_addressedToMe hme] at h
  exact ⟨hme, statusLoginBit_namedSelfClass h⟩

/-- The login bit of an explicitly addressed frame to this controller is bit 5 of the own address: both are the one
wire bit (30_encoding.md R65). -/
theorem loginBit_decodeFrame_of_addressedToMe {c : Cfg} {p : Buf} (hbc : p.b0.getLsbD 7 = false)
    (hme : addressedToMe c (decodeFrame c.layout c.addrSelf p) = true) :
    (decodeFrame c.layout c.addrSelf p).loginBit = c.addrSelf.getLsbD 5 := by
  have hbroadcast : (decodeFrame c.layout c.addrSelf p).broadcast = false := hbc
  have hshared := decodeFrame_rt1 c.layout c.addrSelf p
  rw [Frame.rt1, hbroadcast, addressedToMe_iff.1 hme] at hshared
  simpa using hshared

theorem addrSelf_of_statusLoginBit_classOf {c : Cfg} {p : Buf} {b : Bool} (hbc : p.b0.getLsbD 7 = false)
    (h : (classOf c (decodeFrame c.layout c.addrSelf p)).statusLoginBit = some b) : c.addrSelf.getLsbD 5 = b := by
  obtain ⟨hme, hlogin⟩ := loginBit_of_statusLoginBit_classOf h
  exact (loginBit_decodeFrame_of_addressedToMe hbc hme).symm.trans hlogin

/-- Settles O43: the class excluded by bit 5 would need the opposite login bit. -/
theorem explicitlyAddressedStatusClassIsFixedByTheOwnAddress :
    Obligations.ExplicitlyAddressedStatusClassIsFixedByTheOwnAddress := by
  intro c p hbc f
  have hbit {b : Bool} (h : (classOf c f).statusLoginBit = some b) : c.addrSelf.getLsbD 5 = b :=
    addrSelf_of_statusLoginBit_classOf hbc h
  refine ⟨fun hset hk => ?_, fun hclear => ⟨fun hk => ?_, fun hk => ?_⟩⟩
  · exact Bool.noConfusion (hset.symm.trans (hbit (by rw [hk]; rfl)))
  · exact Bool.noConfusion (hclear.symm.trans (hbit (by rw [hk]; rfl)))
  · exact Bool.noConfusion (hclear.symm.trans (hbit (by rw [hk]; rfl)))

end Sys2Proof

namespace Sys2Proof.Machine

open Sys2Proof.Safety

theorem sentInto_of_empty {m : TxMailbox} (c : Cfg) (r : Frame) (h : m.full = false) :
    sentInto c m r = { full := true, data := toWire (encodeFrame c.layout r) } :=
  if_neg (Bool.eq_false_iff.1 h)

/-! ### The login reply at its receivers (R260) -/

/-- Of the login reply's state fields only the magic is not 0, and it is the request's. -/
theorem loginReply_fits (c : Cfg) {f : Frame} (h : f.fits c.layout = true) : (loginReply c f).fits c.layout = true := by
  have hmagic : fitsIn f.updateMagic c.layout.updateMagic.width = true := by
    simp only [Frame.fits, Bool.and_eq_true] at h
    obtain ⟨⟨⟨-, hmagic⟩, -⟩, -⟩ := h
    exact hmagic
  simp only [Frame.fits, Bool.and_eq_true]
  exact ⟨⟨⟨⟨Setpoints.zero_fits _, fitsIn_zero _⟩, hmagic⟩, fitsIn_zero _⟩, fitsIn_zero _⟩

/-- What RX.STATUS.LOGINREQ leaves in the TX mailbox (43_protocol_fsm.md R157). -/
theorem exec_rxStatusLoginreq_txm {f : Frame} {now : Nat} {s t : State}
    (h : exec (.rxStatusLoginreq f now) s = .next t) :
    f.ofClass s.cfg .statusLoginreq = true ∧ t.txm = sentInto s.cfg s.txm (loginReply s.cfg f) := by
  obtain ⟨-, -, hf, rfl⟩ := onFrame_cases ((exec_classInstr .statusLoginreq f now s).symm.trans h)
  rw [rxBody, transmit_state]
  exact ⟨hf, rfl⟩

/-- Settles O42: the reply's login bit is read back as destination bit 5 by DECODE at any receiver. -/
theorem loginReplyIsReadWithDestinationBitFiveSet : Obligations.LoginReplyIsReadWithDestinationBitFiveSet := by
  intro f now a s t hwf hempty h
  obtain ⟨hf, htx⟩ := exec_rxStatusLoginreq_txm h
  have hfits := loginReply_fits s.cfg (Frame.fits_of_ofClass hf)
  rw [sentInto_of_empty _ _ hempty] at htx
  rw [htx, fromWire_toWire, decodeFrame_encodeFrame (Cfg.layout_wf hwf) a hfits]
  exact ⟨rfl, rfl⟩

/-! ### A pending update under NEVER (R262) -/

theorem exchangedMask_of_never {s : State} (h : s.cfg.clearPolicy = .never) : exchangedMask s = s.pu.dirty := by
  rw [exchangedMask, h]
  split
  · next hclean => exact hclean.symm
  · rfl

/-- Under NEVER an exchange leaves the pending update, so it does not publish (42_pending_update.md R131;
43_protocol_fsm.md R161). -/
theorem exec_rxStatusExchange_of_never {f : Frame} {now : Nat} {s t : State} (hpolicy : s.cfg.clearPolicy = .never)
    (hdirty : s.pu.dirty ≠ 0) (h : exec (.rxStatusExchange f now) s = .next t) : t.pu = s.pu ∧ t.spm = s.spm := by
  obtain ⟨-, hpu, hsp⟩ := exec_rxStatusExchange_registers h
  rw [exchangedMask_of_never hpolicy] at hpu hsp
  exact ⟨hpu, hsp.trans (if_neg hdirty)⟩

theorem exec_classInstr_pu_of_never {k : FrameClass} {f : Frame} {now : Nat} {s t : State}
    (hpolicy : s.cfg.clearPolicy = .never) (hdirty : s.pu.dirty ≠ 0) (h : exec (classInstr k f now) s = .next t) :
    t.pu = s.pu := by
  by_cases hk : k = .statusExchange
  · subst hk
    exact (exec_rxStatusExchange_of_never hpolicy hdirty h).1
  · rw [exec_classInstr] at h
    obtain ⟨-, -, -, rfl⟩ := onFrame_cases h
    exact rxBody_pu f now _ hk

theorem stageIfNew_dirty_ne_zero {s : State} (g : UField) (v : Byte) (h : s.pu.dirty ≠ 0) :
    (s.stageIfNew g v).pu.dirty ≠ 0 := by
  rw [stageIfNew_state]
  dsimp only
  split
  · exact h
  · exact markDirty_ne_zero _ _ _

/-- APPLY_STATE clears no pending update (42_pending_update.md R135). -/
theorem stageAll_dirty_ne_zero {s : State} (d : Setpoints) (h : s.pu.dirty ≠ 0) : (s.stageAll d).pu.dirty ≠ 0 := by
  unfold State.stageAll
  iterate 7 apply stageIfNew_dirty_ne_zero
  exact h

/-- Under NEVER no operation that a request asks for ends a pending update. -/
theorem exec_dirty_ne_zero_of_never {r : Request} {i : Instr} {s t : State} (hpolicy : s.cfg.clearPolicy = .never)
    (hdirty : s.pu.dirty ≠ 0) (hd : decode s.cfg r = .ok i) (h : exec i s = .next t) : t.pu.dirty ≠ 0 := by
  by_cases hrx : ∃ raw now, r = .rx raw now
  · obtain ⟨raw, now, rfl⟩ := hrx
    obtain rfl := Except.ok.inj hd
    rw [exec_classInstr_pu_of_never hpolicy hdirty h]
    exact hdirty
  · push Not at hrx
    cases exec_pendingEffect (decode_receivesFrame hd hrx) h with
    | staged g v hpu => rw [hpu]; exact markDirty_ne_zero _ _ _
    | applied d hpu => rw [hpu]; exact stageAll_dirty_ne_zero d hdirty
    | cleared sent hpu => exact absurd rfl (decode_ne_clearDirty hd sent)
    | kept _ hpu => rw [hpu]; exact hdirty

/-- Under NEVER, with an update pending, the state slot is at most emptied: the exchange does not publish. -/
theorem exec_spm_of_never {r : Request} {i : Instr} {s t : State} (hpolicy : s.cfg.clearPolicy = .never)
    (hdirty : s.pu.dirty ≠ 0) (hd : decode s.cfg r = .ok i) (h : exec i s = .next t) :
    t.spm = s.spm ∨ t.spm = { s.spm with full := false } := by
  by_cases hkept : t.spm = s.spm
  · exact .inl hkept
  · obtain ⟨f, now, hx, -⟩ | ⟨-, htaken⟩ := (exec_mailboxEffect hd h).decode_of_spm_ne hkept
    · obtain rfl := Except.ok.inj (hd.symm.trans hx)
      exact .inl (exec_rxStatusExchange_of_never hpolicy hdirty h).2
    · exact .inr htaken

/-- Settles O45: the parameters are constant, and of the operations that a request asks for none ends the pending
update or publishes. -/
theorem neverPolicyKeepsUpdatesPendingForEver : Obligations.NeverPolicyKeepsUpdatesPendingForEver := by
  intro s t hs hpolicy hdirty h
  refine ⟨by rw [step_cfg hs h, hpolicy], ?_⟩
  obtain ⟨-, rfl⟩ | ⟨c, rest, hr, -⟩ | ⟨r, rest, i, -, -, hd, hi⟩ := step_cases h
  · exact ⟨hdirty, rfl, id⟩
  · exact absurd hr (hs c rest)
  · refine ⟨exec_dirty_ne_zero_of_never (s := s.withRequests rest) hpolicy hdirty hd hi, ?_⟩
    obtain hkept | htaken := exec_spm_of_never (s := s.withRequests rest) hpolicy hdirty hd hi
    · rw [hkept]
      exact ⟨rfl, id⟩
    · rw [htaken]
      exact ⟨rfl, nofun⟩

/-! ### The two steps of RX.LOGIN and the one TX slot (R263) -/

/-- What RX.LOGIN leaves for the probe step (43_protocol_fsm.md R162). -/
theorem exec_rxLogin_registers {f : Frame} {now : Nat} {s t : State} (h : exec (.rxLogin f now) s = .next t) :
    t.cfg = s.cfg ∧ t.txm = sentInto s.cfg s.txm (loginAck s.cfg s.cs f) ∧
      t.fsm.probePending = decide (s.cfg.role = .primary) := by
  obtain ⟨hp, -, -, rfl⟩ := onFrame_cases ((exec_classInstr .login f now s).symm.trans h)
  rw [rxBody_login (s := s.sampleClock now) f now hp]
  exact ⟨rfl, rfl, rfl⟩

/-- The probe step completes where it is enabled, by one TRANSMIT (43_protocol_fsm.md R163). -/
theorem exists_exec_rxLoginProbe {s : State} (hp : s.fsm.probePending = true) (hrole : s.cfg.role = .primary) :
    ∃ u, exec .rxLoginProbe s = .next u ∧ u.txm = sentInto s.cfg s.txm (probeFrame s.cfg) ∧
      u.fsm.probePending = false := by
  obtain ⟨hprobe, -⟩ := probeSendsLoginToTheSecondaryAddress s hp hrole
  exact ⟨_, hprobe, rfl, rfl⟩

/-- TX_TAKE on a full slot answers its frame and empties it (44_transport_mailboxes.md R203). -/
theorem exec_txTake_of_full {s : State} (h : s.txm.full = true) :
    exec .txTake s = .next (s.emptyTx.respond true (wordOf s.txm.data)) := by
  rw [exec_txTake_eq, if_pos h]

/-- Settles O46: after RX.LOGIN the slot is full, so the probe's TRANSMIT is dropped; TX_TAKE empties the slot and
leaves the probe pending. -/
theorem probeIsDroppedUnlessTheSlotIsTaken : Obligations.ProbeIsDroppedUnlessTheSlotIsTaken := by
  intro f now s t hrole h
  obtain ⟨hcfg, htx, hprobe⟩ := exec_rxLogin_registers h
  rw [decide_eq_true hrole] at hprobe
  rw [← hcfg] at hrole
  have hfull : t.txm.full = true := by rw [htx]; exact sentInto_is_full ..
  refine ⟨fun hs => htx.trans (sentInto_full _ _ _ hs), ?dropped, ?accepted⟩
  case dropped =>
    obtain ⟨u, hu, hutx, hdone⟩ := exists_exec_rxLoginProbe hprobe hrole
    exact ⟨u, hu, hutx.trans (sentInto_full _ _ _ hfull), hdone⟩
  case accepted =>
    obtain ⟨u, hu, hutx, hdone⟩ := exists_exec_rxLoginProbe
      (s := t.emptyTx.respond true (wordOf t.txm.data)) hprobe hrole
    refine ⟨_, u, exec_txTake_of_full hfull, rfl, hu, hdone, ?_⟩
    rw [hutx, sentInto_of_empty _ _ rfl, ← hcfg]
    rfl

end Sys2Proof.Machine

/-! ## Words of the test vectors (95_test_vectors.md) -/

namespace Sys2Proof

/-- Settles O59: four of the words are those of their operations, and V-HOST-16's is selector 0x01 above an argument
whose bit 0 is 0. -/
theorem sampleWordsDecodeToTheirOperations : Obligations.SampleWordsDecodeToTheirOperations := by
  have hcfg : cfgB.wf = true := by decide
  have hback {i : Instr} {r : Request} (hi : i.wf cfgB = true) (hr : encode cfgB i = some r)
      (hne : ∀ raw now, i ≠ .onFrameReceived raw now) : decode cfgB r = .ok i :=
    decodingAnEncodedOperationGivesItBack cfgB i r hcfg hi hr hne
  refine ⟨?setTemp, ?applyState, ?setOnoff, ?exchange, ?error⟩
  case setOnoff => exact decode_commandWord cfgB (op := 0x01) (arg := 0x1FFFE) 0 (by decide) (by decide)
  case setTemp | applyState | exchange | error => exact hback (by decide) (by decide) nofun

end Sys2Proof
